-- ==== Sys2Proof/Word.lean ====
section
/-! DEFINITION. The word types of the block: its registers, its pattern width, its mode enumeration. -/

namespace Sys2Proof

/-- Eight bits: the unit in which a stimulus line carries its operands (log 2). -/
abbrev Byte := BitVec 8

/-- A value of SensorRegister, format SENS (R10, R46). -/
abbrev SensorWord := BitVec 16

/-- A value of StatusRegister, format STAT (R11, R47). -/
abbrev StatusWord := BitVec 8

/-- A value of DisplayRegister, format DISP (R12, R50). -/
abbrev DisplayWord := BitVec 32

/-- `tenths_degrees` as the TREC bus carries it, two's complement (R14, R48). -/
abbrev TenthsWord := BitVec 16

/-- A seven-segment pattern, format SEG7 (R51). -/
abbrev Pattern := BitVec 7

/-- A decimal digit: the ten-valued index of the segment table (R98, R100, U4). -/
abbrev Digit := Fin 10

/-- The `mode` of a reading: the source's three names and the reserved code (R14, R48, D4). -/
inductive Mode where
  | rsvd
  | celsius
  | fahrenheit
  | error
  deriving DecidableEq, Repr

end Sys2Proof
end

