-- ==== Sys2Proof/Config.lean ====
section
/-! DEFINITION. The free values of the model: results the spec states for no value, each an uninterpreted function of the operands.
The block's constants, which the spec does give, stand in Sys2Proof/Machine/Params.lean. -/

namespace Sys2Proof

/-- What SRD.FRAC gives on a sensor word outside 0..28800 (R72: "defined only for valid `s`"; log 6). -/
opaque Config.freeFrac : SensorWord → BitVec 5

/-- What SRD.UNBIAS gives on a sensor word outside 0..28800 (operand range of R73; log 6). -/
opaque Config.freeUnbias : SensorWord → Int

/-- What CFC.CONVERT gives on a Celsius value outside -450..450 (operand range of R86; log 6). -/
opaque Config.freeConvert : Int → Int

/-- The sign SSE.SIGNMAG gives on a value outside -490..1130 (operand range of R97; log 6). -/
opaque Config.freeNegative : TenthsWord → Bool

/-- The magnitude SSE.SIGNMAG gives on a value outside -490..1130 (operand range of R97; log 6). -/
opaque Config.freeMagnitude : TenthsWord → Nat

/-- The digits (tenths, ones, tens, hundreds) SSE.DIGITS gives on a magnitude of 10000 or more (R98 states those below; log 8). -/
opaque Config.freeDigits : Nat → Digit × Digit × Digit × Digit

/-- Whether DRM.MODEBITS on a mode that is neither Celsius nor Fahrenheit sets the Celsius bit; it sets the other one if not
(operand range of R115, whose limits `never (1, 1)` and `(0, 0) only in the ERR word` are kept; log 7). -/
opaque Config.freeModeIsCelsius : Mode → Bool

end Sys2Proof
end

