-- ==== Sys2Proof/Syntax.lean ====
section
/-! DEFINITION. The operations of the block: one constructor per row of spec/opcode_table.json, in the table's order. -/

namespace Sys2Proof

/-- The 39 operations of `00_scope.md` section 5.4 as the table lists them. Operands that a format of the block carries are bit
vectors (SENS, STAT, TREC, SEG7); operands that are wires between sub-operations are integers, as `00_scope.md` section 5.2 says.
`hi`, `mid`, `lo` are STATUS bits 7:6, 4:3, 1:0, which the block ignores (R47). -/
inductive Instr where
  -- format STAT (R60)
  | readFault (hi : BitVec 2) (fahr : BitVec 1) (mid lo : BitVec 2)
  | readC (hi mid lo : BitVec 2)
  | readF (hi mid lo : BitVec 2)
  -- format TREC (R61)
  | encC (t : TenthsWord)
  | encF (t : TenthsWord)
  | encErr (t : TenthsWord)
  | encRsvd (t : TenthsWord)
  -- format DIGIT (R62)
  | seg0 | seg1 | seg2 | seg3 | seg4 | seg5 | seg6 | seg7 | seg8 | seg9
  -- formats TICK and EVENT (R62)
  | ucRun
  | reset
  | envSensor (v : SensorWord)
  | envStatus (v : StatusWord)
  | hostRead
  -- format NONE: the sub-operations, operands in the order of their rules
  | srdValid (s : SensorWord) (st : StatusWord)
  | srdFrac (s : SensorWord)
  | srdUnbias (s : SensorWord)
  | srdRound (base : Int) (frac : BitVec 5)
  | srdCelsius (s : SensorWord)
  | srRead (s : SensorWord) (st : StatusWord)
  | cfcConvert (c : Int)
  | sseSignmag (t : TenthsWord)
  | sseDigits (mag : Nat)
  | sseSeg (d : Digit)
  | drmRange (t : TenthsWord) (m : Mode)
  | drmFields (d2 d3 : Digit) (p0 p1 p2 p3 : Pattern)
  | drmMinus (negative : Bool) (d2 d3 : Digit)
  | drmModebits (m : Mode)
  | drmAssemble (f0 f1 f2 f3 m2 m3 : Pattern) (cm fm : Bool)
  | drmErr
  | deEncode (t : TenthsWord) (m : Mode)
  deriving DecidableEq, Repr

end Sys2Proof
end

