-- ==== Sys2Proof/WellFormed.lean ====
section
/-! DEFINITION. Which operations can be written as a stimulus line: those whose integer operands fit sixteen bits. Every other
operand is a bit vector, a digit or a mode, whose type already says what it may be. -/

namespace Sys2Proof

/-- An integer that sixteen two's complement bits hold, the width of the TREC value (R48, log 2). -/
def fitsSigned16 (x : Int) : Bool := decide (-32768 ≤ x ∧ x ≤ 32767)

/-- A natural number that sixteen bits hold (log 2). -/
def fitsUnsigned16 (n : Nat) : Bool := decide (n < 65536)

/-- The check of an operation's integer operands. -/
def Instr.wellFormed : Instr → Bool
  | .readFault _ _ _ _ => true
  | .readC _ _ _ => true
  | .readF _ _ _ => true
  | .encC _ => true
  | .encF _ => true
  | .encErr _ => true
  | .encRsvd _ => true
  | .seg0 => true
  | .seg1 => true
  | .seg2 => true
  | .seg3 => true
  | .seg4 => true
  | .seg5 => true
  | .seg6 => true
  | .seg7 => true
  | .seg8 => true
  | .seg9 => true
  | .ucRun => true
  | .reset => true
  | .envSensor _ => true
  | .envStatus _ => true
  | .hostRead => true
  | .srdValid _ _ => true
  | .srdFrac _ => true
  | .srdUnbias _ => true
  | .srdRound base _ => fitsSigned16 base
  | .srdCelsius _ => true
  | .srRead _ _ => true
  | .cfcConvert c => fitsSigned16 c
  | .sseSignmag _ => true
  | .sseDigits mag => fitsUnsigned16 mag
  | .sseSeg _ => true
  | .drmRange _ _ => true
  | .drmFields _ _ _ _ _ _ => true
  | .drmMinus _ _ _ => true
  | .drmModebits _ => true
  | .drmAssemble _ _ _ _ _ _ _ _ => true
  | .drmErr => true
  | .deEncode _ _ => true

/-- An operation that a stimulus line can carry. -/
abbrev WellFormed (i : Instr) : Prop := i.wellFormed = true

end Sys2Proof
end

