-- ==== Sys2Proof/Decode.lean ====
section
/-! DEFINITION. Which operation a stimulus line selects: the selection keys and bit layouts of `30_encoding.md`, the decoder, and
after it the encoder. -/

namespace Sys2Proof

/-- The selection key of a line: the format of a row that has selecting bits (STAT, TREC, DIGIT), the tick, or the name of the
boundary event or sub-operation, which has no bits that select it (R45, R62; log 2). -/
inductive Key where
  | stat | trec | digit
  | tick
  | reset | envSensor | envStatus | hostRead
  | srdValid | srdFrac | srdUnbias | srdRound | srdCelsius | srRead
  | cfcConvert
  | sseSignmag | sseDigits | sseSeg
  | drmRange | drmFields | drmMinus | drmModebits | drmAssemble | drmErr | deEncode
  deriving DecidableEq, Repr

/-- One line of stimuli (R64): what selects the operation, and its bits in whole bytes, least significant byte first (log 2). -/
structure Line where
  key : Key
  bits : List Byte
  deriving DecidableEq, Repr

/-- Why a line selects no operation. -/
inductive DecodeError where
  /-- The line has not the number of bytes its format or its operands take (R45: every format has one length). -/
  | wrongLength
  /-- A digit index 10..15: the table has ten entries (R63, U4). -/
  | noSuchDigit
  /-- A bit above an operand's width is set in the operand's last byte (log 2). -/
  | reservedBits
  deriving DecidableEq, Repr

/-! The codes and byte forms of the operands. -/

/-- The 2-bit code of a mode (R48, D4). -/
def modeCode : Mode → BitVec 2
  | .rsvd => 0
  | .celsius => 1
  | .fahrenheit => 2
  | .error => 3

/-- The mode of a 2-bit code (R48, D4). -/
def modeOfCode (c : BitVec 2) : Mode :=
  if c = 0 then .rsvd else if c = 1 then .celsius else if c = 2 then .fahrenheit else .error

/-- Two bytes as one 16-bit value, the first the low one. -/
def word16 (b0 b1 : Byte) : BitVec 16 := b1 ++ b0

/-- The two bytes of a 16-bit value, the low one first. -/
def bytes16 (v : BitVec 16) : List Byte := [v.extractLsb' 0 8, v.extractLsb' 8 8]

/-- A byte as an operand of `w` bits: the bits above it must be 0. -/
def operandOf (w : Nat) (b : Byte) : Except DecodeError (BitVec w) :=
  if b.toNat < 2 ^ w then .ok (BitVec.ofNat w b.toNat) else .error .reservedBits

/-- A byte as a decimal digit: 10..15 is no index of the table (U4), more is no 4-bit index. -/
def digitOf (b : Byte) : Except DecodeError Digit :=
  if h : b.toNat < 10 then .ok ⟨b.toNat, h⟩
  else if b.toNat < 16 then .error .noSuchDigit
  else .error .reservedBits

/-- A byte as a single bit. -/
def flagOf (b : Byte) : Except DecodeError Bool :=
  if b = 0 then .ok false else if b = 1 then .ok true else .error .reservedBits

/-- A byte as a mode code. -/
def modeOf (b : Byte) : Except DecodeError Mode := do
  let c ← operandOf 2 b
  return modeOfCode c

/-- The byte of an operand of at most eight bits. -/
def byteOf {w : Nat} (v : BitVec w) : Byte := BitVec.ofNat 8 v.toNat

/-- The byte of a digit. -/
def digitByte (d : Digit) : Byte := BitVec.ofNat 8 d.val

/-- The byte of a single bit. -/
def flagByte (b : Bool) : Byte := if b then 1 else 0

/-! The three formats whose bits select the operation. -/

/-- A STATUS value from its fields, bit 7 first (R47). -/
def statWord (hi : BitVec 2) (fahr : BitVec 1) (mid : BitVec 2) (fault : BitVec 1) (lo : BitVec 2) : StatusWord :=
  hi ++ fahr ++ mid ++ fault ++ lo

/-- Format STAT: the variant of SR.READ that a STATUS value selects (R60; mask 0x04 match 0x04, mask 0x24 match 0x00 or 0x20). -/
def decodeStat (st : StatusWord) : Instr :=
  let hi := st.extractLsb' 6 2
  let fahr := st.extractLsb' 5 1
  let mid := st.extractLsb' 3 2
  let lo := st.extractLsb' 0 2
  if st.extractLsb' 2 1 = 1 then .readFault hi fahr mid lo
  else if fahr = 0 then .readC hi mid lo
  else .readF hi mid lo

/-- Format TREC: the variant of DE.ENCODE that the mode selects (R61). -/
def decodeTrec (t : TenthsWord) : Mode → Instr
  | .celsius => .encC t
  | .fahrenheit => .encF t
  | .error => .encErr t
  | .rsvd => .encRsvd t

/-- Format DIGIT: the case of SSE.SEG that a digit selects (R62). -/
def decodeDigit (d : Digit) : Instr :=
  match d with
  | 0 => .seg0
  | 1 => .seg1
  | 2 => .seg2
  | 3 => .seg3
  | 4 => .seg4
  | 5 => .seg5
  | 6 => .seg6
  | 7 => .seg7
  | 8 => .seg8
  | 9 => .seg9

/-- The operation of a key and its bits: total on any bytes, refusing by name. -/
def decodeBits (key : Key) (bits : List Byte) : Except DecodeError Instr :=
  match key with
  | .stat => match bits with
    | [b] => .ok (decodeStat b)
    | _ => .error .wrongLength
  | .trec => match bits with
    | [b0, b1, b2] => do
      let m ← modeOf b2
      return decodeTrec (word16 b0 b1) m
    | _ => .error .wrongLength
  | .digit => match bits with
    | [b] => do
      let d ← digitOf b
      return decodeDigit d
    | _ => .error .wrongLength
  | .tick => match bits with
    | [] => .ok .ucRun
    | _ => .error .wrongLength
  | .reset => match bits with
    | [] => .ok .reset
    | _ => .error .wrongLength
  | .envSensor => match bits with
    | [b0, b1] => .ok (.envSensor (word16 b0 b1))
    | _ => .error .wrongLength
  | .envStatus => match bits with
    | [b] => .ok (.envStatus b)
    | _ => .error .wrongLength
  | .hostRead => match bits with
    | [] => .ok .hostRead
    | _ => .error .wrongLength
  | .srdValid => match bits with
    | [b0, b1, b2] => .ok (.srdValid (word16 b0 b1) b2)
    | _ => .error .wrongLength
  | .srdFrac => match bits with
    | [b0, b1] => .ok (.srdFrac (word16 b0 b1))
    | _ => .error .wrongLength
  | .srdUnbias => match bits with
    | [b0, b1] => .ok (.srdUnbias (word16 b0 b1))
    | _ => .error .wrongLength
  | .srdRound => match bits with
    | [b0, b1, b2] => do
      let frac ← operandOf 5 b2
      return .srdRound (word16 b0 b1).toInt frac
    | _ => .error .wrongLength
  | .srdCelsius => match bits with
    | [b0, b1] => .ok (.srdCelsius (word16 b0 b1))
    | _ => .error .wrongLength
  | .srRead => match bits with
    | [b0, b1, b2] => .ok (.srRead (word16 b0 b1) b2)
    | _ => .error .wrongLength
  | .cfcConvert => match bits with
    | [b0, b1] => .ok (.cfcConvert (word16 b0 b1).toInt)
    | _ => .error .wrongLength
  | .sseSignmag => match bits with
    | [b0, b1] => .ok (.sseSignmag (word16 b0 b1))
    | _ => .error .wrongLength
  | .sseDigits => match bits with
    | [b0, b1] => .ok (.sseDigits (word16 b0 b1).toNat)
    | _ => .error .wrongLength
  | .sseSeg => match bits with
    | [b] => do
      let d ← digitOf b
      return .sseSeg d
    | _ => .error .wrongLength
  | .drmRange => match bits with
    | [b0, b1, b2] => do
      let m ← modeOf b2
      return .drmRange (word16 b0 b1) m
    | _ => .error .wrongLength
  | .drmFields => match bits with
    | [b0, b1, b2, b3, b4, b5] => do
      let d2 ← digitOf b0
      let d3 ← digitOf b1
      let p0 ← operandOf 7 b2
      let p1 ← operandOf 7 b3
      let p2 ← operandOf 7 b4
      let p3 ← operandOf 7 b5
      return .drmFields d2 d3 p0 p1 p2 p3
    | _ => .error .wrongLength
  | .drmMinus => match bits with
    | [b0, b1, b2] => do
      let negative ← flagOf b0
      let d2 ← digitOf b1
      let d3 ← digitOf b2
      return .drmMinus negative d2 d3
    | _ => .error .wrongLength
  | .drmModebits => match bits with
    | [b] => do
      let m ← modeOf b
      return .drmModebits m
    | _ => .error .wrongLength
  | .drmAssemble => match bits with
    | [b0, b1, b2, b3, b4, b5, b6, b7] => do
      let f0 ← operandOf 7 b0
      let f1 ← operandOf 7 b1
      let f2 ← operandOf 7 b2
      let f3 ← operandOf 7 b3
      let m2 ← operandOf 7 b4
      let m3 ← operandOf 7 b5
      let cm ← flagOf b6
      let fm ← flagOf b7
      return .drmAssemble f0 f1 f2 f3 m2 m3 cm fm
    | _ => .error .wrongLength
  | .drmErr => match bits with
    | [] => .ok .drmErr
    | _ => .error .wrongLength
  | .deEncode => match bits with
    | [b0, b1, b2] => do
      let m ← modeOf b2
      return .deEncode (word16 b0 b1) m
    | _ => .error .wrongLength

/-- The operation a line selects. -/
def decode (l : Line) : Except DecodeError Instr := decodeBits l.key l.bits

/-! The encoder. -/

/-- The line of a reading's 18 bits under a key: `tenths_degrees` in the low bytes, the mode code above them (R48). -/
def trecLine (key : Key) (t : TenthsWord) (m : Mode) : Line := ⟨key, bytes16 t ++ [byteOf (modeCode m)]⟩

/-- The line of a digit under a key. -/
def digitLine (key : Key) (d : Digit) : Line := ⟨key, [digitByte d]⟩

/-- The line that carries an operation: for a well-formed operation, the one `decode` reads back. -/
def encode : Instr → Line
  | .readFault hi fahr mid lo => ⟨.stat, [statWord hi fahr mid 1 lo]⟩
  | .readC hi mid lo => ⟨.stat, [statWord hi 0 mid 0 lo]⟩
  | .readF hi mid lo => ⟨.stat, [statWord hi 1 mid 0 lo]⟩
  | .encC t => trecLine .trec t .celsius
  | .encF t => trecLine .trec t .fahrenheit
  | .encErr t => trecLine .trec t .error
  | .encRsvd t => trecLine .trec t .rsvd
  | .seg0 => digitLine .digit 0
  | .seg1 => digitLine .digit 1
  | .seg2 => digitLine .digit 2
  | .seg3 => digitLine .digit 3
  | .seg4 => digitLine .digit 4
  | .seg5 => digitLine .digit 5
  | .seg6 => digitLine .digit 6
  | .seg7 => digitLine .digit 7
  | .seg8 => digitLine .digit 8
  | .seg9 => digitLine .digit 9
  | .ucRun => ⟨.tick, []⟩
  | .reset => ⟨.reset, []⟩
  | .envSensor v => ⟨.envSensor, bytes16 v⟩
  | .envStatus v => ⟨.envStatus, [v]⟩
  | .hostRead => ⟨.hostRead, []⟩
  | .srdValid s st => ⟨.srdValid, bytes16 s ++ [st]⟩
  | .srdFrac s => ⟨.srdFrac, bytes16 s⟩
  | .srdUnbias s => ⟨.srdUnbias, bytes16 s⟩
  | .srdRound base frac => ⟨.srdRound, bytes16 (BitVec.ofInt 16 base) ++ [byteOf frac]⟩
  | .srdCelsius s => ⟨.srdCelsius, bytes16 s⟩
  | .srRead s st => ⟨.srRead, bytes16 s ++ [st]⟩
  | .cfcConvert c => ⟨.cfcConvert, bytes16 (BitVec.ofInt 16 c)⟩
  | .sseSignmag t => ⟨.sseSignmag, bytes16 t⟩
  | .sseDigits mag => ⟨.sseDigits, bytes16 (BitVec.ofNat 16 mag)⟩
  | .sseSeg d => digitLine .sseSeg d
  | .drmRange t m => trecLine .drmRange t m
  | .drmFields d2 d3 p0 p1 p2 p3 =>
    ⟨.drmFields, [digitByte d2, digitByte d3, byteOf p0, byteOf p1, byteOf p2, byteOf p3]⟩
  | .drmMinus negative d2 d3 => ⟨.drmMinus, [flagByte negative, digitByte d2, digitByte d3]⟩
  | .drmModebits m => ⟨.drmModebits, [byteOf (modeCode m)]⟩
  | .drmAssemble f0 f1 f2 f3 m2 m3 cm fm =>
    ⟨.drmAssemble, [byteOf f0, byteOf f1, byteOf f2, byteOf f3, byteOf m2, byteOf m3, flagByte cm, flagByte fm]⟩
  | .drmErr => ⟨.drmErr, []⟩
  | .deEncode t m => trecLine .deEncode t m

/-! The table's words, which carry no key. -/

/-- The line of a word of the table's `nbits` bits. STAT and DIGIT words both fill one byte and the table has no bit that tells
them apart: 0..9 is read as a digit, every other byte as a STATUS value (log 16). A row of no bits has no word. -/
def lineOfTableWord (nbits w : Nat) : Option Line :=
  if nbits = 4 then some ⟨.digit, [BitVec.ofNat 8 w]⟩
  else if nbits = 8 then
    if w < 10 then some ⟨.digit, [BitVec.ofNat 8 w]⟩ else some ⟨.stat, [BitVec.ofNat 8 w]⟩
  else if nbits = 18 ∨ nbits = 24 then
    some ⟨.trec, [BitVec.ofNat 8 w, BitVec.ofNat 8 (w / 256), BitVec.ofNat 8 (w / 65536)]⟩
  else none

/-- The operation the decoder reads from a word of the opcode table. -/
def decodeTableWord (nbits w : Nat) : Option Instr :=
  match lineOfTableWord nbits w with
  | none => none
  | some l => (decode l).toOption

end Sys2Proof
end

