-- ==== Sys2Proof/Machine/Params.lean ====
section
/-! DEFINITION. The block's constants: the named parameters of `00_scope.md` section 4 and the patterns of `30_encoding.md`, at the
values this hardware takes (R18; the literals are unaudited, log 9). -/

namespace Sys2Proof.Machine

/-- SENSOR_MIN: the lowest valid sensor value. -/
@[simp] abbrev sensorMin : Int := 0

/-- SENSOR_MAX: the highest valid sensor value. -/
@[simp] abbrev sensorMax : Int := 28800

/-- ROUND_AT: the fraction at and above which the decoder rounds up. -/
@[simp] abbrev roundAt : Nat := 16

/-- BIAS: what is subtracted from the biased field. -/
@[simp] abbrev bias : Int := 450

/-- F_MUL of the Fahrenheit conversion. -/
@[simp] abbrev fMul : Int := 9

/-- F_DIV of the Fahrenheit conversion. -/
@[simp] abbrev fDiv : Int := 5

/-- F_OFF of the Fahrenheit conversion. -/
@[simp] abbrev fOff : Int := 320

/-- C_MIN: the lowest Celsius tenths displayed. -/
@[simp] abbrev cMin : Int := -450

/-- C_MAX: the highest Celsius tenths displayed. -/
@[simp] abbrev cMax : Int := 450

/-- F_MIN: the lowest Fahrenheit tenths displayed. -/
@[simp] abbrev fMin : Int := -490

/-- F_MAX: the highest Fahrenheit tenths displayed. -/
@[simp] abbrev fMax : Int := 1130

/-- FAULT_BIT of StatusRegister (R47). -/
@[simp] abbrev faultBit : Nat := 2

/-- FAHR_BIT of StatusRegister (R47). -/
@[simp] abbrev fahrBit : Nat := 5

/-- TENTHS_LSB: where the tenths field begins in DISPLAY (R50). -/
@[simp] abbrev tenthsLsb : Nat := 0

/-- ONES_LSB (R50). -/
@[simp] abbrev onesLsb : Nat := 7

/-- TENS_LSB (R50). -/
@[simp] abbrev tensLsb : Nat := 14

/-- HUNDREDS_LSB (R50). -/
@[simp] abbrev hundredsLsb : Nat := 21

/-- C_MODE_BIT of DISPLAY (R50). -/
@[simp] abbrev cModeBit : Nat := 28

/-- F_MODE_BIT of DISPLAY (R50). -/
@[simp] abbrev fModeBit : Nat := 29

/-- SEG: the digit table (R52), its strings read bit 6 first (D17, log 9). -/
def segTable : Vector Pattern 10 :=
  #v[0b1111011#7, 0b1001000#7, 0b0111101#7, 0b1101101#7, 0b1001110#7,
     0b1100111#7, 0b1110111#7, 0b1001001#7, 0b1111111#7, 0b1101111#7]

/-- MINUS: the minus glyph (R53). -/
def minusGlyph : Pattern := 0b0000100#7

/-- ERR_E (R54). -/
def errE : Pattern := 0b0110111#7

/-- ERR_R (R54). -/
def errR : Pattern := 0b1011111#7

/-- The empty field (R56). -/
def blankPattern : Pattern := 0b0000000#7

/-- ERR_WORD: the fixed word of every error cause (R57, R117). -/
def errWord : DisplayWord := 0x06F7EF80#32

/-- DISPLAY_RESET: DisplayRegister after reset (R20, D11, log 10). -/
def displayReset : DisplayWord := 0x00000000#32

end Sys2Proof.Machine
end

