-- ==== Sys2Proof/Machine/State.lean ====
section
/-! DEFINITION. The state of the block: its three registers (R10, R11, R12), and beside them the model's own two fields, the outputs
of the latest operation and the boundary events still to come. -/

namespace Sys2Proof.Machine

/-- TemperatureReading, the record that passes from SR.READ to DE.ENCODE inside a cycle (R14, R48). -/
structure Reading where
  tenths : TenthsWord
  mode : Mode
  deriving DecidableEq, Repr

/-- The three status outputs of an update cycle, format FLAGS (R15, R49): `true` is the fault. -/
structure Flags where
  sensorFault : Bool
  outOfRange : Bool
  degraded : Bool
  deriving DecidableEq, Repr

/-- What an operation delivers beside its effect on the registers: the label of its transition (log 3). -/
inductive Output where
  /-- RESET and the environment's writes report nothing (R171, R42). -/
  | silent
  /-- The status outputs of an update cycle (R15, R136). -/
  | status (f : Flags)
  /-- A 32-bit word: what the host reads (R31), the digit word (R116), the ERR word (R117). -/
  | word (w : DisplayWord)
  /-- A reading with its result code, `true` for `Fault` (R78). -/
  | reading (r : Reading) (fault : Bool)
  /-- A display word with the encoder's status, `true` for `OutOfRange` (R118). -/
  | encoded (w : DisplayWord) (outOfRange : Bool)
  /-- The outcome of a check (R71, R111). -/
  | bit (b : Bool)
  /-- A rounding fraction (R72). -/
  | fraction (f : BitVec 5)
  /-- A number of tenths of a degree on an internal wire (R73, R74, R75, R86). -/
  | tenths (x : Int)
  /-- Sign and magnitude (R97). -/
  | signMagnitude (negative : Bool) (mag : Nat)
  /-- Tenths, ones, tens and hundreds digit (R98). -/
  | digits (d0 d1 d2 d3 : Digit)
  /-- A seven-segment pattern (R100). -/
  | pattern (p : Pattern)
  /-- Tenths, ones, tens and hundreds field (R113). -/
  | fields (f0 f1 f2 f3 : Pattern)
  /-- The minus contributions to the tens and the hundreds field (R114). -/
  | minus (m2 m3 : Pattern)
  /-- The mode indicator bits CM and FM (R115). -/
  | modeBits (cm fm : Bool)
  deriving DecidableEq, Repr

/-- One thing that happens at the block's boundary. -/
inductive Stimulus where
  /-- A line of the notation of R64. -/
  | line (l : Line)
  /-- A rising clock edge of the reference realisation, with its `rst` and `tick` inputs (R170). -/
  | edge (rst tick : Bool)
  deriving DecidableEq, Repr

/-- The block: its three registers, the outputs of its latest operation, the stimuli still to come, oldest first. -/
structure State where
  sensor : SensorWord
  status : StatusWord
  display : DisplayWord
  delivered : Output
  stimuli : List Stimulus
  deriving DecidableEq, Repr

/-- The block takes no trap and has no fatal error: there is no fault (R4, R150; log 14). -/
inductive Fault
  deriving DecidableEq, Repr

/-- Why a step gives no next state. -/
inductive Refusal where
  /-- Raised by the dispatch for an operation that has no meaning yet; safe. -/
  | notModelled (mnemonic : String)
  /-- Raised by the step for a line that selects no operation (wrong length, digit index 10..15 of U4, bits above an operand's
  width); the spec has no such stimulus; safe (log 13). -/
  | malformedLine (e : DecodeError)
  deriving DecidableEq, Repr

/-- The block right after reset: DISPLAY as R20 says, no event pending and nothing delivered yet. R21 leaves SENSOR and STATUS at
any value; the zeros here are the model's choice (log 5). -/
def State.reset : State where
  sensor := 0x0000#16
  status := 0x00#8
  display := displayReset
  delivered := .silent
  stimuli := []

end Sys2Proof.Machine
end

