-- ==== Sys2Proof/Machine/Operands.lean ====
section
/-! DEFINITION. Operand assembly: the fields cut from the two input registers (R46, R47, R58), the patterns and bits placed into the
output word (R51, R59), and the fields of the output word (R50). -/

namespace Sys2Proof.Machine

/-- `s = sint_16(SENSOR)` (R58). -/
abbrev sensorValue (v : SensorWord) : Int := v.toInt

/-- `frac = SENSOR[4:0]` (R58). -/
def fracField (v : SensorWord) : BitVec 5 := v.extractLsb' 0 5

/-- `bf = SENSOR[14:5]` (R58; the extent of the field is that of C2). -/
def biasedField (v : SensorWord) : BitVec 10 := v.extractLsb' 5 10

/-- `fault_flag = STATUS[2]` (R58). -/
def faultFlag (st : StatusWord) : Bool := st.getLsbD faultBit

/-- `fahr_flag = STATUS[5]` (R58). -/
def fahrFlag (st : StatusWord) : Bool := st.getLsbD fahrBit

/-- A sensor value in 0..28800, the operands of the decode (R71, R72). -/
def sensorInRange (v : SensorWord) : Bool := decide (sensorMin ≤ sensorValue v ∧ sensorValue v ≤ sensorMax)

/-- The value of `tenths_degrees` on the bus (R48). -/
abbrev tenthsValue (t : TenthsWord) : Int := t.toInt

/-- An integer put onto the bus (R48, R89: every value a reading takes fits). -/
def tenthsWord (x : Int) : TenthsWord := BitVec.ofInt 16 x

/-- A pattern at a field's lowest bit (R51). -/
def placePattern (p : Pattern) (lsb : Nat) : DisplayWord := p.setWidth 32 <<< lsb

/-- A single bit of the word (R59). -/
def placeBit (b : Bool) (lsb : Nat) : DisplayWord := (BitVec.ofBool b).setWidth 32 <<< lsb

/-- The TENTHS field of a word (R50). -/
def tenthsField (w : DisplayWord) : Pattern := w.extractLsb' tenthsLsb 7

/-- The ONES field of a word (R50). -/
def onesField (w : DisplayWord) : Pattern := w.extractLsb' onesLsb 7

/-- The TENS field of a word (R50). -/
def tensField (w : DisplayWord) : Pattern := w.extractLsb' tensLsb 7

/-- The HUNDREDS field of a word (R50). -/
def hundredsField (w : DisplayWord) : Pattern := w.extractLsb' hundredsLsb 7

/-- The bit CM of a word (R50). -/
def celsiusBit (w : DisplayWord) : Bool := w.getLsbD cModeBit

/-- The bit FM of a word (R50). -/
def fahrenheitBit (w : DisplayWord) : Bool := w.getLsbD fModeBit

/-- The two unused bits of a word (R50). -/
def unusedBits (w : DisplayWord) : BitVec 2 := w.extractLsb' 30 2

end Sys2Proof.Machine
end

