-- ==== Sys2Proof/Machine/Ops.lean ====
section
/-! DEFINITION. The named operations on the state: register access with the access rights of R31, the reset write, the outputs, and
the list of stimuli. The block takes no exception and returns from none (R150, R156, R157), so no entry operation stands here; what
a fault does is to set a status output (Flags.lean) and to substitute a fallback value in its own rule. -/

namespace Sys2Proof.Machine

/-- `RegRead(SENSOR)`: no side effect (R36). -/
def State.readSensor (s : State) : SensorWord := s.sensor

/-- `RegRead(STATUS)`: no side effect (R36). -/
def State.readStatus (s : State) : StatusWord := s.status

/-- The host's read of DISPLAY (R31). -/
def State.readDisplay (s : State) : DisplayWord := s.display

/-- `RegWrite(DISPLAY, w)`: all 32 bits, only by the update cycle and reset (R32, R37). -/
def State.writeDisplay (s : State) (w : DisplayWord) : State := { s with display := w }

/-- The environment's write of SENSOR (R19). -/
def State.envWriteSensor (s : State) (v : SensorWord) : State := { s with sensor := v }

/-- The environment's write of STATUS (R19). -/
def State.envWriteStatus (s : State) (v : StatusWord) : State := { s with status := v }

/-- What an operation delivers with its transition (log 3). -/
def State.deliver (s : State) (o : Output) : State := { s with delivered := o }

/-- The stimuli that remain. -/
def State.withStimuli (s : State) (xs : List Stimulus) : State := { s with stimuli := xs }

/-- The reset of the block: DISPLAY alone (R171). -/
def State.resetDisplay (s : State) : State := s.writeDisplay displayReset

/-- What a rising clock edge performs: reset wins over a simultaneous tick, which is lost; with neither, nothing (R170, R171). -/
def edgeOperation (rst tick : Bool) : Option Instr :=
  if rst then some .reset else if tick then some .ucRun else none

/-- The operation a stimulus asks for, if any. -/
def stimulusOperation : Stimulus → Except DecodeError (Option Instr)
  | .line l => (decode l).map some
  | .edge rst tick => .ok (edgeOperation rst tick)

end Sys2Proof.Machine
end

