-- ==== Sys2Proof/Machine/Sse.lean ====
section
/-! DEFINITION. The seven_segment_digit_encoder (`42_seven_segment_digit_encoder.md`). -/

namespace Sys2Proof.Machine

/-- SSE.SIGNMAG (R97): sign and magnitude; outside its operand range -490..1130 free values (log 6). -/
def sseSignmag (t : TenthsWord) : Bool × Nat :=
  if fMin ≤ tenthsValue t ∧ tenthsValue t ≤ fMax then (decide (tenthsValue t < 0), (tenthsValue t).natAbs)
  else (Config.freeNegative t, Config.freeMagnitude t)

/-- The decimal digit of a number's remainder by ten. -/
def digitOfNat (n : Nat) : Digit := ⟨n % 10, Nat.mod_lt n (by decide)⟩

/-- SSE.DIGITS (R98): tenths, ones, tens, hundreds digit by remainder and division; from 10000 on free values (log 8). -/
def sseDigits (mag : Nat) : Digit × Digit × Digit × Digit :=
  if mag < 10000 then
    (digitOfNat mag, digitOfNat (mag / 10), digitOfNat (mag / 10 / 10), digitOfNat (mag / 10 / 10 / 10))
  else Config.freeDigits mag

/-- SSE.SEG (R100): the table. -/
def sseSeg (d : Digit) : Pattern := segTable[d]

/-- SSE.SIGNMAG on its own (R97). -/
def execSseSignmag (t : TenthsWord) (s : State) : Host.Outcome State Fault Refusal :=
  .next (s.deliver (.signMagnitude (sseSignmag t).1 (sseSignmag t).2))

/-- SSE.DIGITS on its own (R98). -/
def execSseDigits (mag : Nat) (s : State) : Host.Outcome State Fault Refusal :=
  .next (s.deliver (.digits (sseDigits mag).1 (sseDigits mag).2.1 (sseDigits mag).2.2.1 (sseDigits mag).2.2.2))

/-- SSE.SEG on its own (R100). -/
def execSseSeg (d : Digit) (s : State) : Host.Outcome State Fault Refusal :=
  .next (s.deliver (.pattern (sseSeg d)))

/-- SEG.0 (R100). -/
def execSeg0 (s : State) : Host.Outcome State Fault Refusal := .next (s.deliver (.pattern (sseSeg 0)))

/-- SEG.1 (R100). -/
def execSeg1 (s : State) : Host.Outcome State Fault Refusal := .next (s.deliver (.pattern (sseSeg 1)))

/-- SEG.2 (R100). -/
def execSeg2 (s : State) : Host.Outcome State Fault Refusal := .next (s.deliver (.pattern (sseSeg 2)))

/-- SEG.3 (R100). -/
def execSeg3 (s : State) : Host.Outcome State Fault Refusal := .next (s.deliver (.pattern (sseSeg 3)))

/-- SEG.4 (R100). -/
def execSeg4 (s : State) : Host.Outcome State Fault Refusal := .next (s.deliver (.pattern (sseSeg 4)))

/-- SEG.5 (R100). -/
def execSeg5 (s : State) : Host.Outcome State Fault Refusal := .next (s.deliver (.pattern (sseSeg 5)))

/-- SEG.6 (R100). -/
def execSeg6 (s : State) : Host.Outcome State Fault Refusal := .next (s.deliver (.pattern (sseSeg 6)))

/-- SEG.7 (R100). -/
def execSeg7 (s : State) : Host.Outcome State Fault Refusal := .next (s.deliver (.pattern (sseSeg 7)))

/-- SEG.8 (R100). -/
def execSeg8 (s : State) : Host.Outcome State Fault Refusal := .next (s.deliver (.pattern (sseSeg 8)))

/-- SEG.9 (R100). -/
def execSeg9 (s : State) : Host.Outcome State Fault Refusal := .next (s.deliver (.pattern (sseSeg 9)))

end Sys2Proof.Machine
end

