-- ==== Sys2Proof/Machine/Drm.lean ====
section
/-! DEFINITION. The display_register_multiplexer and the DisplayEncoder contract (`43_display_register_multiplexer.md`). -/

namespace Sys2Proof.Machine

/-- DRM.RANGE (R111): a mode that is displayed, and a value in that mode's range, bounds included. -/
def drmRange (r : Reading) : Bool :=
  match r.mode with
  | .celsius => decide (cMin ≤ tenthsValue r.tenths ∧ tenthsValue r.tenths ≤ cMax)
  | .fahrenheit => decide (fMin ≤ tenthsValue r.tenths ∧ tenthsValue r.tenths ≤ fMax)
  | .error => false
  | .rsvd => false

/-- DRM.FIELDS (R113): leading-zero suppression of the tens and the hundreds field. -/
def drmFields (d2 d3 : Digit) (p0 p1 p2 p3 : Pattern) : Pattern × Pattern × Pattern × Pattern :=
  (p0, p1, if d2 ≠ 0 ∨ d3 ≠ 0 then p2 else blankPattern, if d3 ≠ 0 then p3 else blankPattern)

/-- DRM.MINUS (R114): the glyph in the tens slot when tens and hundreds digit are both zero, else in the hundreds slot (C4, D26,
log 9). -/
def drmMinus (negative : Bool) (d2 d3 : Digit) : Pattern × Pattern :=
  if negative = false then (blankPattern, blankPattern)
  else if d2 = 0 ∧ d3 = 0 then (minusGlyph, blankPattern)
  else (blankPattern, minusGlyph)

/-- DRM.MODEBITS (R115): CM and FM, exactly one of them set; which one is free for a mode that is not displayed (log 7). -/
def drmModebits (m : Mode) : Bool × Bool :=
  match m with
  | .celsius => (true, false)
  | .fahrenheit => (false, true)
  | .error => (Config.freeModeIsCelsius .error, !Config.freeModeIsCelsius .error)
  | .rsvd => (Config.freeModeIsCelsius .rsvd, !Config.freeModeIsCelsius .rsvd)

/-- DRM.ASSEMBLE (R116): the placed fields and bits ORed into a zero word. -/
def drmAssemble (f0 f1 f2 f3 m2 m3 : Pattern) (cm fm : Bool) : DisplayWord :=
  0x00000000#32 ||| placePattern f0 tenthsLsb ||| placePattern f1 onesLsb ||| placePattern (f2 ||| m2) tensLsb
    ||| placePattern (f3 ||| m3) hundredsLsb ||| placeBit cm cModeBit ||| placeBit fm fModeBit

/-- The digit word of a reading: the digit path of DE.ENCODE (R118). -/
def digitWord (r : Reading) : DisplayWord :=
  let sm := sseSignmag r.tenths
  let d := sseDigits sm.2
  let f := drmFields d.2.2.1 d.2.2.2 (sseSeg d.1) (sseSeg d.2.1) (sseSeg d.2.2.1) (sseSeg d.2.2.2)
  let m := drmMinus sm.1 d.2.2.1 d.2.2.2
  let b := drmModebits r.mode
  drmAssemble f.1 f.2.1 f.2.2.1 f.2.2.2 m.1 m.2 b.1 b.2

/-- DE.ENCODE (R118): the word and its status, `true` for `OutOfRange`. -/
def deEncode (r : Reading) : DisplayWord × Bool :=
  if drmRange r = false then (errWord, true) else (digitWord r, false)

/-- DE.ENCODE as a transition: it delivers the word and the status and touches no register (R36, R118). -/
def deliverEncoded (r : Reading) (s : State) : State := s.deliver (.encoded (deEncode r).1 (deEncode r).2)

/-- ENC.C (R61, R118). -/
def execEncC (t : TenthsWord) (s : State) : Host.Outcome State Fault Refusal :=
  .next (deliverEncoded ⟨t, .celsius⟩ s)

/-- ENC.F (R61, R118). -/
def execEncF (t : TenthsWord) (s : State) : Host.Outcome State Fault Refusal :=
  .next (deliverEncoded ⟨t, .fahrenheit⟩ s)

/-- ENC.ERR (R61, R118). -/
def execEncErr (t : TenthsWord) (s : State) : Host.Outcome State Fault Refusal :=
  .next (deliverEncoded ⟨t, .error⟩ s)

/-- ENC.RSVD (R61, R118). -/
def execEncRsvd (t : TenthsWord) (s : State) : Host.Outcome State Fault Refusal :=
  .next (deliverEncoded ⟨t, .rsvd⟩ s)

/-- DRM.RANGE on its own (R111). -/
def execDrmRange (t : TenthsWord) (m : Mode) (s : State) : Host.Outcome State Fault Refusal :=
  .next (s.deliver (.bit (drmRange ⟨t, m⟩)))

/-- DRM.FIELDS on its own (R113). -/
def execDrmFields (d2 d3 : Digit) (p0 p1 p2 p3 : Pattern) (s : State) : Host.Outcome State Fault Refusal :=
  let f := drmFields d2 d3 p0 p1 p2 p3
  .next (s.deliver (.fields f.1 f.2.1 f.2.2.1 f.2.2.2))

/-- DRM.MINUS on its own (R114). -/
def execDrmMinus (negative : Bool) (d2 d3 : Digit) (s : State) : Host.Outcome State Fault Refusal :=
  .next (s.deliver (.minus (drmMinus negative d2 d3).1 (drmMinus negative d2 d3).2))

/-- DRM.MODEBITS on its own (R115). -/
def execDrmModebits (m : Mode) (s : State) : Host.Outcome State Fault Refusal :=
  .next (s.deliver (.modeBits (drmModebits m).1 (drmModebits m).2))

/-- DRM.ASSEMBLE on its own (R116). -/
def execDrmAssemble (f0 f1 f2 f3 m2 m3 : Pattern) (cm fm : Bool) (s : State) :
    Host.Outcome State Fault Refusal :=
  .next (s.deliver (.word (drmAssemble f0 f1 f2 f3 m2 m3 cm fm)))

/-- DRM.ERR on its own (R117). -/
def execDrmErr (s : State) : Host.Outcome State Fault Refusal := .next (s.deliver (.word errWord))

/-- DE.ENCODE on its own (R118). -/
def execDeEncode (t : TenthsWord) (m : Mode) (s : State) : Host.Outcome State Fault Refusal :=
  .next (deliverEncoded ⟨t, m⟩ s)

end Sys2Proof.Machine
end

