-- ==== Sys2Proof/Machine/Flags.lean ====
section
/-! DEFINITION. The status outputs, which take the place of condition flags (R15): how they are combined and their format. -/

namespace Sys2Proof.Machine

/-- The status outputs of a cycle from those of its two stages: `degraded = sensor_fault | out_of_range` (R138). -/
def cycleFlags (sensorFault outOfRange : Bool) : Flags where
  sensorFault := sensorFault
  outOfRange := outOfRange
  degraded := sensorFault || outOfRange

/-- Format FLAGS: `degraded ++ out_of_range ++ sensor_fault` (R49). -/
def flagsBits (f : Flags) : BitVec 3 :=
  BitVec.ofBool f.degraded ++ BitVec.ofBool f.outOfRange ++ BitVec.ofBool f.sensorFault

end Sys2Proof.Machine
end

