-- ==== Sys2Proof/Machine/Cfc.lean ====
section
/-! DEFINITION. The fixed_point_celsius_fahrenheit_converter (`41_celsius_fahrenheit_converter.md`). -/

namespace Sys2Proof.Machine

/-- CFC.CONVERT (R86, R87): multiply, divide truncating toward zero (D16, log 9), add; outside its operand range a free value
(log 6). -/
def cfcConvert (c : Int) : Int :=
  if cMin ≤ c ∧ c ≤ cMax then Int.tdiv (c * fMul) fDiv + fOff else Config.freeConvert c

/-- CFC.CONVERT on its own (R86). -/
def execCfcConvert (c : Int) (s : State) : Host.Outcome State Fault Refusal :=
  .next (s.deliver (.tenths (cfcConvert c)))

end Sys2Proof.Machine
end

