-- ==== Sys2Proof/Machine/Srd.lean ====
section
/-! DEFINITION. The sensor_register_decoder sub-block and the SensorReader contract (`40_sensor_register_decoder.md`). -/

namespace Sys2Proof.Machine

/-- SRD.VALID (R71): the sensor value in range and the fault bit clear. -/
def srdValid (v : SensorWord) (st : StatusWord) : Bool := sensorInRange v && !faultFlag st

/-- SRD.FRAC (R72): the low five bits; outside its operand range a free value (log 6). -/
def srdFrac (v : SensorWord) : BitVec 5 := if sensorInRange v then fracField v else Config.freeFrac v

/-- SRD.UNBIAS (R73): the biased field less 450; outside its operand range a free value (log 6). -/
def srdUnbias (v : SensorWord) : Int :=
  if sensorInRange v then ((biasedField v).toNat : Int) - bias else Config.freeUnbias v

/-- SRD.ROUND (R74): round half up on the fraction. -/
def srdRound (base : Int) (frac : BitVec 5) : Int := if roundAt ≤ frac.toNat then base + 1 else base

/-- SRD.CELSIUS (R75). -/
def srdCelsius (v : SensorWord) : Int := srdRound (srdUnbias v) (srdFrac v)

/-- SR.READ (R78): the reading and its result code, `true` for `Fault`. The variants of R60 are its three arms. -/
def srRead (v : SensorWord) (st : StatusWord) : Reading × Bool :=
  if srdValid v st = false then (⟨0, .error⟩, true)
  else if fahrFlag st = false then (⟨tenthsWord (srdCelsius v), .celsius⟩, false)
  else (⟨tenthsWord (cfcConvert (srdCelsius v)), .fahrenheit⟩, false)

/-- SR.READ as a transition: it delivers the reading and the code and touches no register (R36, R78). -/
def deliverReading (v : SensorWord) (st : StatusWord) (s : State) : State :=
  s.deliver (.reading (srRead v st).1 (srRead v st).2)

/-- READ.FAULT (R60, R78): SR.READ on SENSOR and a STATUS value with bit 2 set (log 4). -/
def execReadFault (hi : BitVec 2) (fahr : BitVec 1) (mid lo : BitVec 2) (s : State) :
    Host.Outcome State Fault Refusal :=
  .next (deliverReading s.readSensor (statWord hi fahr mid 1 lo) s)

/-- READ.C (R60, R78): SR.READ on SENSOR and a STATUS value with bits 5 and 2 clear (log 4). -/
def execReadC (hi mid lo : BitVec 2) (s : State) : Host.Outcome State Fault Refusal :=
  .next (deliverReading s.readSensor (statWord hi 0 mid 0 lo) s)

/-- READ.F (R60, R78): SR.READ on SENSOR and a STATUS value with bit 5 set and bit 2 clear (log 4). -/
def execReadF (hi mid lo : BitVec 2) (s : State) : Host.Outcome State Fault Refusal :=
  .next (deliverReading s.readSensor (statWord hi 1 mid 0 lo) s)

/-- SRD.VALID on its own (R71). -/
def execSrdValid (v : SensorWord) (st : StatusWord) (s : State) : Host.Outcome State Fault Refusal :=
  .next (s.deliver (.bit (srdValid v st)))

/-- SRD.FRAC on its own (R72). -/
def execSrdFrac (v : SensorWord) (s : State) : Host.Outcome State Fault Refusal :=
  .next (s.deliver (.fraction (srdFrac v)))

/-- SRD.UNBIAS on its own (R73). -/
def execSrdUnbias (v : SensorWord) (s : State) : Host.Outcome State Fault Refusal :=
  .next (s.deliver (.tenths (srdUnbias v)))

/-- SRD.ROUND on its own (R74). -/
def execSrdRound (base : Int) (frac : BitVec 5) (s : State) : Host.Outcome State Fault Refusal :=
  .next (s.deliver (.tenths (srdRound base frac)))

/-- SRD.CELSIUS on its own (R75). -/
def execSrdCelsius (v : SensorWord) (s : State) : Host.Outcome State Fault Refusal :=
  .next (s.deliver (.tenths (srdCelsius v)))

/-- SR.READ on its own, both operands given (R78). -/
def execSrRead (v : SensorWord) (st : StatusWord) (s : State) : Host.Outcome State Fault Refusal :=
  .next (deliverReading v st s)

end Sys2Proof.Machine
end

