-- ==== Sys2Proof/Machine/Uc.lean ====
section
/-! DEFINITION. The update cycle (`44_update_cycle.md`) and the events at the block's boundary (R19, R31, R171). -/

namespace Sys2Proof.Machine

/-- Steps 1, 2 and 4 of an update cycle on its snapshot: the display word and the three status outputs, functions of the two input
values alone (R5, R136, R138). -/
def cycleResult (v : SensorWord) (st : StatusWord) : DisplayWord × Flags :=
  let read := srRead v st
  let encoded := deEncode read.1
  (encoded.1, cycleFlags read.2 encoded.2)

/-- The three status ports of the reference realisation, computed from the current inputs (R170). -/
def statusPorts (s : State) : Flags := (cycleResult s.readSensor s.readStatus).2

/-- UC.RUN (R136): one snapshot, one unconditional write of DISPLAY, the status outputs. -/
def execUcRun (s : State) : Host.Outcome State Fault Refusal :=
  let result := cycleResult s.readSensor s.readStatus
  .next ((s.writeDisplay result.1).deliver (.status result.2))

/-- RESET (R171): DISPLAY alone; no status is reported. -/
def execReset (s : State) : Host.Outcome State Fault Refusal := .next (s.resetDisplay.deliver .silent)

/-- ENV.SENSOR (R19). -/
def execEnvSensor (v : SensorWord) (s : State) : Host.Outcome State Fault Refusal :=
  .next ((s.envWriteSensor v).deliver .silent)

/-- ENV.STATUS (R19). -/
def execEnvStatus (v : StatusWord) (s : State) : Host.Outcome State Fault Refusal :=
  .next ((s.envWriteStatus v).deliver .silent)

/-- HOST.READ (R31): the whole of DISPLAY. -/
def execHostRead (s : State) : Host.Outcome State Fault Refusal := .next (s.deliver (.word s.readDisplay))

end Sys2Proof.Machine
end

