-- ==== Sys2Proof/Machine/Dispatch.lean ====
section
/-! DEFINITION. The dispatch: one arm per constructor of Instr. -/

namespace Sys2Proof.Machine

def exec (i : Instr) (s : State) : Host.Outcome State Fault Refusal :=
  match i with
  | .readFault hi fahr mid lo => Sys2Proof.Machine.execReadFault hi fahr mid lo s
  | .readC hi mid lo => Sys2Proof.Machine.execReadC hi mid lo s
  | .readF hi mid lo => Sys2Proof.Machine.execReadF hi mid lo s
  | .encC t => Sys2Proof.Machine.execEncC t s
  | .encF t => Sys2Proof.Machine.execEncF t s
  | .encErr t => Sys2Proof.Machine.execEncErr t s
  | .encRsvd t => Sys2Proof.Machine.execEncRsvd t s
  | .seg0 => Sys2Proof.Machine.execSeg0 s
  | .seg1 => Sys2Proof.Machine.execSeg1 s
  | .seg2 => Sys2Proof.Machine.execSeg2 s
  | .seg3 => Sys2Proof.Machine.execSeg3 s
  | .seg4 => Sys2Proof.Machine.execSeg4 s
  | .seg5 => Sys2Proof.Machine.execSeg5 s
  | .seg6 => Sys2Proof.Machine.execSeg6 s
  | .seg7 => Sys2Proof.Machine.execSeg7 s
  | .seg8 => Sys2Proof.Machine.execSeg8 s
  | .seg9 => Sys2Proof.Machine.execSeg9 s
  | .ucRun => Sys2Proof.Machine.execUcRun s
  | .reset => Sys2Proof.Machine.execReset s
  | .envSensor v => Sys2Proof.Machine.execEnvSensor v s
  | .envStatus v => Sys2Proof.Machine.execEnvStatus v s
  | .hostRead => Sys2Proof.Machine.execHostRead s
  | .srdValid v st => Sys2Proof.Machine.execSrdValid v st s
  | .srdFrac v => Sys2Proof.Machine.execSrdFrac v s
  | .srdUnbias v => Sys2Proof.Machine.execSrdUnbias v s
  | .srdRound base frac => Sys2Proof.Machine.execSrdRound base frac s
  | .srdCelsius v => Sys2Proof.Machine.execSrdCelsius v s
  | .srRead v st => Sys2Proof.Machine.execSrRead v st s
  | .cfcConvert c => Sys2Proof.Machine.execCfcConvert c s
  | .sseSignmag t => Sys2Proof.Machine.execSseSignmag t s
  | .sseDigits mag => Sys2Proof.Machine.execSseDigits mag s
  | .sseSeg d => Sys2Proof.Machine.execSseSeg d s
  | .drmRange t m => Sys2Proof.Machine.execDrmRange t m s
  | .drmFields d2 d3 p0 p1 p2 p3 => Sys2Proof.Machine.execDrmFields d2 d3 p0 p1 p2 p3 s
  | .drmMinus negative d2 d3 => Sys2Proof.Machine.execDrmMinus negative d2 d3 s
  | .drmModebits m => Sys2Proof.Machine.execDrmModebits m s
  | .drmAssemble f0 f1 f2 f3 m2 m3 cm fm => Sys2Proof.Machine.execDrmAssemble f0 f1 f2 f3 m2 m3 cm fm s
  | .drmErr => Sys2Proof.Machine.execDrmErr s
  | .deEncode t m => Sys2Proof.Machine.execDeEncode t m s

end Sys2Proof.Machine
end

