-- ==== Sys2Proof/Machine/Step.lean ====
section
/-! DEFINITION. One step: the next stimulus, if any, is taken off the list and its operation performed (log 1). -/

namespace Sys2Proof.Machine

/-- With no stimulus the block is idle and holds its state (R165); a stimulus is taken off, and its operation runs to its end as
one step (R137); a clock edge with neither `rst` nor `tick` changes nothing (R170). -/
def step (s : State) : Host.Outcome State Fault Refusal :=
  match s.stimuli with
  | [] => .next s
  | x :: rest =>
    match stimulusOperation x with
    | .error e => .refused (.malformedLine e)
    | .ok none => .next (s.withStimuli rest)
    | .ok (some i) => exec i (s.withStimuli rest)

/-- The state with a word of the opcode table as its very next stimulus, before those it already has (log 1, log 16). -/
def State.withFetchWord (s : State) (nbits w : Nat) : State :=
  match lineOfTableWord nbits w with
  | none => s
  | some l => s.withStimuli (.line l :: s.stimuli)

end Sys2Proof.Machine
end

