-- ==== Sys2Proof/Safety.lean ====
section
/-! DEFINITION. What counts as a legal display word and a safe state (R13), the layouts of a digit word (R119), and the terms in
which claims speak of outcomes. -/

namespace Sys2Proof

open Sys2Proof.Machine

/-- The next state of an outcome, where it has one. -/
def nextOf (o : Host.Outcome State Fault Refusal) : Option State :=
  match o with
  | .next s => some s
  | .fault _ => none
  | .refused _ => none

/-- A pattern of the digit table (R52). -/
def isDigitPattern (p : Pattern) : Bool := segTable.toList.contains p

/-- The TENS field of a digit word: empty, the minus glyph, or a digit (R119). -/
def legalTens (p : Pattern) : Bool := p == blankPattern || p == minusGlyph || isDigitPattern p

/-- The HUNDREDS field of a digit word: empty, the minus glyph, or the digit 1 (R119). -/
def legalHundreds (p : Pattern) : Bool := p == blankPattern || p == minusGlyph || p == 0b1001000#7

/-- A digit word: unused bits clear, exactly one mode bit, and in each field a pattern R119 allows there. -/
def legalDigitWord (w : DisplayWord) : Bool :=
  unusedBits w == 0 && (celsiusBit w != fahrenheitBit w) && isDigitPattern (tenthsField w) && isDigitPattern (onesField w)
    && legalTens (tensField w) && legalHundreds (hundredsField w)

/-- A word an update cycle may leave: the ERR word or a digit word (R13). -/
def legalCycleWord (w : DisplayWord) : Bool := w == errWord || legalDigitWord w

/-- A word DISPLAY may hold after reset or any update cycle (R13, R20). -/
def legalDisplay (w : DisplayWord) : Bool := w == displayReset || legalCycleWord w

/-- The invariant of R13: it holds from the first reset or the first update cycle on (R172, U5). -/
def Inv (s : State) : Prop := legalDisplay s.display = true

/-- The segment pattern of the digit of `n` at a power of ten. -/
def digitPatternAt (n power : Nat) : Pattern := sseSeg (digitOfNat (n / power))

/-- The HUNDREDS field of R119's five layouts. -/
def layoutHundreds (t : Int) : Pattern :=
  if 1000 ≤ t then 0b1001000#7 else if t ≤ -100 then minusGlyph else blankPattern

/-- The TENS field of R119's five layouts. -/
def layoutTens (t : Int) : Pattern :=
  if 0 ≤ t ∧ t ≤ 99 then blankPattern
  else if -99 ≤ t ∧ t ≤ -1 then minusGlyph
  else digitPatternAt t.natAbs 100

/-- The digit word of R119's table for a value, with the mode bits FM and CM. -/
def layoutWord (t : Int) (fm cm : Bool) : DisplayWord :=
  0#2 ++ BitVec.ofBool fm ++ BitVec.ofBool cm ++ layoutHundreds t ++ layoutTens t
    ++ digitPatternAt t.natAbs 10 ++ digitPatternAt t.natAbs 1

end Sys2Proof
end

