-- ==== Sys2Proof/Certificates/Slice0/Obligations.lean ====
section
/-! DEFINITION. The statements for the provers, each from a rule of spec/ named in its docstring. A result is read in the field
`delivered`, the model's record of what an operation delivers (log 3). -/

open Sys2Proof Sys2Proof.Machine

/-! Encoding and selection -/

/-- `30_encoding.md` sections 1 and 4: what the encoder writes for an operation with operands in their widths, the decoder reads back,
every operand at every value (the byte form of rows without bits is the model's, log 2). -/
def Obligations.DecodeOfEncodeIsTheOperation : Prop :=
  ∀ i : Instr, WellFormed i → decode (encode i) = .ok i

/-- `30_encoding.md` sections 1 and 4: a line that decodes is the one line of a well-formed operation, so no two lines share an
operation and no bit of a line is dropped (the byte form is the model's, log 2). -/
def Obligations.EncodeOfDecodeIsTheLine : Prop :=
  ∀ (l : Line) (i : Instr), decode l = .ok i → WellFormed i ∧ encode i = l

/-- Words written out from R47, R48 and R62: one of each format with selecting bits, and each kind of line refused by name. -/
def Obligations.WordsOfTheSpecDecode : Prop :=
  decode ⟨.stat, [0b01011110#8]⟩ = .ok (.readFault 0b01 0 0b11 0b10) ∧
  decode ⟨.stat, [0b11011011#8]⟩ = .ok (.readC 0b11 0b11 0b11) ∧
  decode ⟨.stat, [0b00100000#8]⟩ = .ok (.readF 0 0 0) ∧
  decode ⟨.trec, [0xD7#8, 0x00#8, 0b01#8]⟩ = .ok (.encC 215) ∧
  decode ⟨.trec, [0xFB#8, 0xFF#8, 0b10#8]⟩ = .ok (.encF (-5)) ∧
  decode ⟨.digit, [0b0111#8]⟩ = .ok .seg7 ∧
  decode ⟨.tick, []⟩ = .ok .ucRun ∧
  decode ⟨.envSensor, [0x20#8, 0x53#8]⟩ = .ok (.envSensor 21280) ∧
  decode ⟨.digit, [10#8]⟩ = .error .noSuchDigit ∧
  decode ⟨.tick, [0#8]⟩ = .error .wrongLength ∧
  decode ⟨.trec, [0#8, 0#8, 4#8]⟩ = .error .reservedBits

/-- R60: which variant of SR.READ a STATUS value selects, by its masks and matches, whatever the other bits. -/
def Obligations.StatusWordSelectsReadVariant : Prop :=
  ∀ st : StatusWord,
    (st &&& 0x04#8 = 0x04#8 ∧ ∃ hi fahr mid lo, decode ⟨.stat, [st]⟩ = .ok (.readFault hi fahr mid lo)) ∨
    (st &&& 0x24#8 = 0x00#8 ∧ ∃ hi mid lo, decode ⟨.stat, [st]⟩ = .ok (.readC hi mid lo)) ∨
    (st &&& 0x24#8 = 0x20#8 ∧ ∃ hi mid lo, decode ⟨.stat, [st]⟩ = .ok (.readF hi mid lo))

/-- U4, R63: a digit index of 10 to 15 selects no table entry; the line is refused by name, never given a pattern. -/
def Obligations.DigitIndexAboveNineIsRefused : Prop :=
  ∀ (s : State) (key : Key) (b : Byte) (rest : List Stimulus), (key = .digit ∨ key = .sseSeg) → 10 ≤ b.toNat → b.toNat ≤ 15 →
    s.stimuli = .line ⟨key, [b]⟩ :: rest → step s = .refused (.malformedLine .noSuchDigit)

/-! The sensor_register_decoder -/

/-- R71: the validity check, both bounds inclusive, any one of the three causes sufficing. -/
def Obligations.ValidityCheckBit : Prop :=
  ∀ (v : SensorWord) (st : StatusWord) (s : State),
    exec (.srdValid v st) s =
      .next { s with delivered := .bit (!(decide (v.toInt < 0) || decide (v.toInt > 28800) || st.getLsbD 2)) }

/-- R72: for a valid sensor value the fraction is its remainder by 32. -/
def Obligations.FractionIsTheLowFiveBits : Prop :=
  ∀ (v : SensorWord) (s : State), 0 ≤ v.toInt → v.toInt ≤ 28800 →
    exec (.srdFrac v) s = .next { s with delivered := .fraction (v.extractLsb' 0 5) } ∧
    ((v.extractLsb' 0 5).toNat : Int) = v.toInt % 32

/-- R73: for a valid sensor value the base is the value shifted right by five less 450, and it lies in -450..450. -/
def Obligations.UnbiasIsShiftLessBias : Prop :=
  ∀ (v : SensorWord) (s : State), 0 ≤ v.toInt → v.toInt ≤ 28800 →
    exec (.srdUnbias v) s = .next { s with delivered := .tenths (v.toInt / 32 - 450) } ∧
    v.toInt / 32 = ((v.extractLsb' 5 10).toNat : Int) ∧ -450 ≤ v.toInt / 32 - 450 ∧ v.toInt / 32 - 450 ≤ 450

/-- R74: round half up on the fraction. -/
def Obligations.RoundHalfUpOnTheFraction : Prop :=
  ∀ (base : Int) (frac : BitVec 5) (s : State),
    exec (.srdRound base frac) s =
      .next { s with delivered := .tenths (if frac.toNat ≥ 16 then base + 1 else base) }

/-- `40_sensor_register_decoder.md` section 2, the composition and the two closed forms of SRD.CELSIUS on a valid value. -/
def Obligations.CelsiusDecodeClosedForms : Prop :=
  ∀ (v : SensorWord) (s : State), 0 ≤ v.toInt → v.toInt ≤ 28800 →
    exec (.srdCelsius v) s = .next { s with delivered := .tenths ((v.toInt + 16) / 32 - 450) } ∧
    exec (.srdRound (v.toInt / 32 - 450) (v.extractLsb' 0 5)) s = exec (.srdCelsius v) s ∧
    (v.toInt + 16) / 32 = ((v.extractLsb' 5 10).toNat : Int) + (if v.getLsbD 4 then 1 else 0)

/-- `40_sensor_register_decoder.md` section 2, the range of the decode: every value of -450..450, and exactly the sensor values
that decode to it. -/
def Obligations.SensorValuesOfEachCelsiusValue : Prop :=
  ∀ (c : Int) (v : SensorWord) (s : State), 0 ≤ v.toInt → v.toInt ≤ 28800 →
    (exec (.srdCelsius v) s = .next { s with delivered := .tenths c } ↔
      -450 ≤ c ∧ c ≤ 450 ∧ max 0 (32 * (c + 450) - 16) ≤ v.toInt ∧ v.toInt ≤ min 28800 (32 * (c + 450) + 15))

/-- R78 with `40_sensor_register_decoder.md` section 2: SR.READ on every pair of operands; a faulted reading is `{0, Error}`, a
valid one carries what SRD.CELSIUS and CFC.CONVERT deliver, unchanged by the 16-bit bus. -/
def Obligations.SensorReaderContract : Prop :=
  ∀ (v : SensorWord) (st : StatusWord) (s : State),
    ((v.toInt < 0 ∨ v.toInt > 28800 ∨ st.getLsbD 2 = true) →
      exec (.srRead v st) s = .next { s with delivered := .reading ⟨0, .error⟩ true }) ∧
    (0 ≤ v.toInt ∧ v.toInt ≤ 28800 ∧ st.getLsbD 2 = false →
      ∃ c f : Int,
        exec (.srdCelsius v) s = .next { s with delivered := .tenths c } ∧
        exec (.cfcConvert c) s = .next { s with delivered := .tenths f } ∧
        ∃ t : TenthsWord,
          exec (.srRead v st) s =
            .next { s with delivered := .reading ⟨t, if st.getLsbD 5 then .fahrenheit else .celsius⟩ false } ∧
          t.toInt = if st.getLsbD 5 then f else c)

/-- `30_encoding.md` section 4 (R60): what each variant of SR.READ delivers for the value in the SENSOR register. That the register
is the operand of a variant run on its own is the model's reading, log 4. -/
def Obligations.ReadVariantsDeliver : Prop :=
  ∀ (hi mid lo : BitVec 2) (fahr : BitVec 1) (s : State),
    exec (.readFault hi fahr mid lo) s = .next { s with delivered := .reading ⟨0, .error⟩ true } ∧
    (0 ≤ s.sensor.toInt ∧ s.sensor.toInt ≤ 28800 →
      ∃ tc tf : TenthsWord,
        exec (.readC hi mid lo) s = .next { s with delivered := .reading ⟨tc, .celsius⟩ false } ∧
        tc.toInt = (s.sensor.toInt + 16) / 32 - 450 ∧
        exec (.readF hi mid lo) s = .next { s with delivered := .reading ⟨tf, .fahrenheit⟩ false } ∧
        exec (.cfcConvert tc.toInt) s = .next { s with delivered := .tenths tf.toInt }) ∧
    (s.sensor.toInt < 0 ∨ s.sensor.toInt > 28800 →
      exec (.readC hi mid lo) s = .next { s with delivered := .reading ⟨0, .error⟩ true } ∧
      exec (.readF hi mid lo) s = .next { s with delivered := .reading ⟨0, .error⟩ true })

/-! The fixed_point_celsius_fahrenheit_converter -/

/-- `41_celsius_fahrenheit_converter.md` section 2: multiply by 9, divide by 5 toward zero, add 320, the result in -490..1130. The
direction of the division is this spec's reading of `truncating` (D16, log 9). -/
def Obligations.ConversionTruncatesTowardZero : Prop :=
  ∀ (c : Int) (s : State), -450 ≤ c → c ≤ 450 →
    ∃ f : Int,
      exec (.cfcConvert c) s = .next { s with delivered := .tenths f } ∧
      (0 ≤ c → f = c * 9 / 5 + 320) ∧ (c < 0 → f = -(-(c * 9) / 5) + 320) ∧ -490 ≤ f ∧ f ≤ 1130

/-- `41_celsius_fahrenheit_converter.md` section 2, the shape of the conversion: strictly increasing, its ends, and never further
than 0.8 tenths from the exact value (D16, log 9). -/
def Obligations.ConversionIsStrictlyIncreasing : Prop :=
  ∀ (c c' f f' : Int) (s : State), -450 ≤ c → c < c' → c' ≤ 450 →
    exec (.cfcConvert c) s = .next { s with delivered := .tenths f } →
    exec (.cfcConvert c') s = .next { s with delivered := .tenths f' } →
    f < f' ∧ |5 * f - (9 * c + 1600)| ≤ 4 ∧ (c = -450 → f = -490) ∧ (c' = 450 → f' = 1130)

/-! The seven_segment_digit_encoder -/

/-- R97: sign and magnitude of a value in -490..1130; zero is not negative. -/
def Obligations.SignAndMagnitude : Prop :=
  ∀ (t : TenthsWord) (s : State), -490 ≤ t.toInt → t.toInt ≤ 1130 →
    exec (.sseSignmag t) s =
      .next { s with delivered := .signMagnitude (decide (t.toInt < 0)) (if 0 ≤ t.toInt then t.toInt else -t.toInt).toNat }

/-- `42_seven_segment_digit_encoder.md` section 2: the four digits by remainder and division, which recompose every magnitude below
10000. The operand range there ends at 1130; that the operation follows its formula on 1131..9999 is the model's reading (log 8). -/
def Obligations.DigitsRecomposeTheMagnitude : Prop :=
  ∀ (mag : Nat) (s : State), mag < 10000 →
    ∃ d0 d1 d2 d3 : Digit,
      exec (.sseDigits mag) s = .next { s with delivered := .digits d0 d1 d2 d3 } ∧
      d0.val = mag % 10 ∧ d1.val = (mag / 10) % 10 ∧ d2.val = (mag / 100) % 10 ∧ d3.val = (mag / 1000) % 10 ∧
      mag = 1000 * d3.val + 100 * d2.val + 10 * d1.val + d0.val

/-- `42_seven_segment_digit_encoder.md` section 2, the bounds on the digits of a value that passed the range check: a negative or a
Celsius value has hundreds digit 0 and tens digit at most 4; hundreds digit 1 is a Fahrenheit value of 1000..1130. -/
def Obligations.DigitBoundsOfReadingsInRange : Prop :=
  ∀ (t : TenthsWord) (m : Mode) (s : State), exec (.drmRange t m) s = .next { s with delivered := .bit true } →
    ∃ (negative : Bool) (mag : Nat) (d0 d1 d2 d3 : Digit),
      exec (.sseSignmag t) s = .next { s with delivered := .signMagnitude negative mag } ∧ mag ≤ 1130 ∧
      exec (.sseDigits mag) s = .next { s with delivered := .digits d0 d1 d2 d3 } ∧ d3.val ≤ 1 ∧
      (negative = true ∨ m = .celsius → d3.val = 0 ∧ d2.val ≤ 4) ∧
      (d3.val = 1 → m = .fahrenheit ∧ 1000 ≤ t.toInt ∧ t.toInt ≤ 1130 ∧ d2.val ≤ 1)

/-- `42_seven_segment_digit_encoder.md` section 2: the ten cases of the table, as SSE.SEG and as the ten rows SEG.0 to SEG.9. The
values read the source's pattern strings as D17 does (log 9). -/
def Obligations.SegmentTableEntries : Prop :=
  ∀ s : State,
    (exec .seg0 s = .next { s with delivered := .pattern 0x7B } ∧ exec (.sseSeg 0) s = .next { s with delivered := .pattern 0x7B }) ∧
    (exec .seg1 s = .next { s with delivered := .pattern 0x48 } ∧ exec (.sseSeg 1) s = .next { s with delivered := .pattern 0x48 }) ∧
    (exec .seg2 s = .next { s with delivered := .pattern 0x3D } ∧ exec (.sseSeg 2) s = .next { s with delivered := .pattern 0x3D }) ∧
    (exec .seg3 s = .next { s with delivered := .pattern 0x6D } ∧ exec (.sseSeg 3) s = .next { s with delivered := .pattern 0x6D }) ∧
    (exec .seg4 s = .next { s with delivered := .pattern 0x4E } ∧ exec (.sseSeg 4) s = .next { s with delivered := .pattern 0x4E }) ∧
    (exec .seg5 s = .next { s with delivered := .pattern 0x67 } ∧ exec (.sseSeg 5) s = .next { s with delivered := .pattern 0x67 }) ∧
    (exec .seg6 s = .next { s with delivered := .pattern 0x77 } ∧ exec (.sseSeg 6) s = .next { s with delivered := .pattern 0x77 }) ∧
    (exec .seg7 s = .next { s with delivered := .pattern 0x49 } ∧ exec (.sseSeg 7) s = .next { s with delivered := .pattern 0x49 }) ∧
    (exec .seg8 s = .next { s with delivered := .pattern 0x7F } ∧ exec (.sseSeg 8) s = .next { s with delivered := .pattern 0x7F }) ∧
    (exec .seg9 s = .next { s with delivered := .pattern 0x6F } ∧ exec (.sseSeg 9) s = .next { s with delivered := .pattern 0x6F })

/-! The display_register_multiplexer -/

/-- R111: the range and validity check on every one of the 2^18 readings, all four bounds inclusive. -/
def Obligations.RangeCheckBit : Prop :=
  ∀ (t : TenthsWord) (m : Mode) (s : State),
    exec (.drmRange t m) s =
      .next { s with
        delivered := .bit ((decide (m = .celsius) && decide (-450 ≤ t.toInt) && decide (t.toInt ≤ 450)) ||
          (decide (m = .fahrenheit) && decide (-490 ≤ t.toInt) && decide (t.toInt ≤ 1130))) }

/-- R113: leading-zero suppression. -/
def Obligations.LeadingZeroSuppression : Prop :=
  ∀ (d2 d3 : Digit) (p0 p1 p2 p3 : Pattern) (s : State),
    exec (.drmFields d2 d3 p0 p1 p2 p3) s =
      .next { s with
        delivered := .fields p0 p1 (if d2 ≠ 0 ∨ d3 ≠ 0 then p2 else 0b0000000) (if d3 ≠ 0 then p3 else 0b0000000) }

/-- `43_display_register_multiplexer.md` section 2: the slot of the minus glyph, `negative` with a hundreds digit included. The
slot is this spec's resolution of its source (C4, D26, log 9). -/
def Obligations.MinusGlyphSlot : Prop :=
  ∀ (negative : Bool) (d2 d3 : Digit) (s : State),
    exec (.drmMinus negative d2 d3) s =
      .next { s with
        delivered :=
          if negative = false then .minus 0b0000000 0b0000000
          else if d2 = 0 ∧ d3 = 0 then .minus 0b0000100 0b0000000
          else .minus 0b0000000 0b0000100 }

/-- R115: the mode bits of a displayed mode, and in an encoded word: one of them, never both, exactly when the status is `Ok`. -/
def Obligations.ModeBitsOfDisplayedModes : Prop :=
  ∀ s : State,
    exec (.drmModebits .celsius) s = .next { s with delivered := .modeBits true false } ∧
    exec (.drmModebits .fahrenheit) s = .next { s with delivered := .modeBits false true } ∧
    ∀ (t : TenthsWord) (m : Mode) (w : DisplayWord) (outOfRange : Bool),
      exec (.deEncode t m) s = .next { s with delivered := .encoded w outOfRange } →
      (celsiusBit w || fahrenheitBit w) = !outOfRange ∧ (celsiusBit w && fahrenheitBit w) = false

/-- `43_display_register_multiplexer.md` section 2 for Celsius and Fahrenheit: the mode bits are mutually exclusive and one is set. For
Error and the reserved mode, outside the operand range there, that exactly one is set is the model's choice (log 7), and which one is
a free value. -/
def Obligations.ModeBitsAreMutuallyExclusive : Prop :=
  ∀ (m : Mode) (s : State), ∃ cm : Bool, exec (.drmModebits m) s = .next { s with delivered := .modeBits cm (!cm) }

/-- R116: the placed fields and bits ORed into a zero word are the concatenation of the fields, bits 31:30 zero. -/
def Obligations.AssembleIsTheConcatenation : Prop :=
  ∀ (f0 f1 f2 f3 m2 m3 : Pattern) (cm fm : Bool) (s : State),
    exec (.drmAssemble f0 f1 f2 f3 m2 m3 cm fm) s =
      .next { s with
        delivered := .word (0b00#2 ++ BitVec.ofBool fm ++ BitVec.ofBool cm ++ (f3 ||| m3) ++ (f2 ||| m2) ++ f1 ++ f0) }

/-- `43_display_register_multiplexer.md` section 2: the ERR word, whole and by its fields; its glyphs are read as D17 does (log 9). -/
def Obligations.ErrorWordIsConstant : Prop :=
  ∀ s : State,
    exec .drmErr s = .next { s with delivered := .word 0x06F7EF80 } ∧
    (0x06F7EF80#32 : DisplayWord) = 0b00#2 ++ 0b0#1 ++ 0b0#1 ++ 0b0110111#7 ++ 0b1011111#7 ++ 0b1011111#7 ++ 0b0000000#7

/-- R118: DE.ENCODE on every one of the 2^18 readings, through what its sub-operations deliver. -/
def Obligations.DisplayEncoderContract : Prop :=
  ∀ (t : TenthsWord) (m : Mode) (s : State),
    (exec (.drmRange t m) s = .next { s with delivered := .bit false } ∧
      ∃ w, exec .drmErr s = .next { s with delivered := .word w } ∧
        exec (.deEncode t m) s = .next { s with delivered := .encoded w true }) ∨
    (exec (.drmRange t m) s = .next { s with delivered := .bit true } ∧
      ∃ (negative : Bool) (mag : Nat) (d0 d1 d2 d3 : Digit) (p0 p1 p2 p3 f0 f1 f2 f3 m2 m3 : Pattern) (cm fm : Bool) (w : DisplayWord),
        exec (.sseSignmag t) s = .next { s with delivered := .signMagnitude negative mag } ∧
        exec (.sseDigits mag) s = .next { s with delivered := .digits d0 d1 d2 d3 } ∧
        exec (.sseSeg d0) s = .next { s with delivered := .pattern p0 } ∧
        exec (.sseSeg d1) s = .next { s with delivered := .pattern p1 } ∧
        exec (.sseSeg d2) s = .next { s with delivered := .pattern p2 } ∧
        exec (.sseSeg d3) s = .next { s with delivered := .pattern p3 } ∧
        exec (.drmFields d2 d3 p0 p1 p2 p3) s = .next { s with delivered := .fields f0 f1 f2 f3 } ∧
        exec (.drmMinus negative d2 d3) s = .next { s with delivered := .minus m2 m3 } ∧
        exec (.drmModebits m) s = .next { s with delivered := .modeBits cm fm } ∧
        exec (.drmAssemble f0 f1 f2 f3 m2 m3 cm fm) s = .next { s with delivered := .word w } ∧
        exec (.deEncode t m) s = .next { s with delivered := .encoded w false })

/-- `30_encoding.md` section 4 with `43_display_register_multiplexer.md` sections 2 and 3: what the mode code of a reading selects.
The variant by its code (the codes are D4, log 11; the byte form of the line is the model's, log 2); each variant is DE.ENCODE of its
value in its mode; and the word each delivers, in range that of the five layouts (the minus slot in it is C4's, D26, log 9). -/
def Obligations.ModeCodeSelectsEncodeVariant : Prop :=
  ∀ (b0 b1 : Byte) (s : State),
    (decode ⟨.trec, [b0, b1, 0b01]⟩ = .ok (.encC (b1 ++ b0)) ∧
      decode ⟨.trec, [b0, b1, 0b10]⟩ = .ok (.encF (b1 ++ b0)) ∧
      decode ⟨.trec, [b0, b1, 0b11]⟩ = .ok (.encErr (b1 ++ b0)) ∧
      decode ⟨.trec, [b0, b1, 0b00]⟩ = .ok (.encRsvd (b1 ++ b0))) ∧
    ∀ t : TenthsWord,
      exec (.encC t) s = exec (.deEncode t .celsius) s ∧ exec (.encF t) s = exec (.deEncode t .fahrenheit) s ∧
      exec (.encErr t) s = exec (.deEncode t .error) s ∧ exec (.encRsvd t) s = exec (.deEncode t .rsvd) s ∧
      (-450 ≤ t.toInt ∧ t.toInt ≤ 450 →
        ∃ w, w = layoutWord t.toInt false true ∧ exec (.encC t) s = .next { s with delivered := .encoded w false } ∧
          celsiusBit w = true ∧ fahrenheitBit w = false ∧ legalDigitWord w = true) ∧
      (t.toInt < -450 ∨ 450 < t.toInt → exec (.encC t) s = .next { s with delivered := .encoded 0x06F7EF80 true }) ∧
      (-490 ≤ t.toInt ∧ t.toInt ≤ 1130 →
        ∃ w, w = layoutWord t.toInt true false ∧ exec (.encF t) s = .next { s with delivered := .encoded w false } ∧
          fahrenheitBit w = true ∧ celsiusBit w = false ∧ legalDigitWord w = true) ∧
      (t.toInt < -490 ∨ 1130 < t.toInt → exec (.encF t) s = .next { s with delivered := .encoded 0x06F7EF80 true }) ∧
      exec (.encErr t) s = .next { s with delivered := .encoded 0x06F7EF80 true } ∧
      exec (.encRsvd t) s = .next { s with delivered := .encoded 0x06F7EF80 true }

/-- `43_display_register_multiplexer.md` section 3: the digit word of every reading in range is that of the table of five layouts
(the minus slot in it is C4's, D26, log 9). -/
def Obligations.DigitWordsHaveTheFiveLayouts : Prop :=
  ∀ (t : TenthsWord) (s : State),
    (-450 ≤ t.toInt → t.toInt ≤ 450 →
      exec (.deEncode t .celsius) s = .next { s with delivered := .encoded (layoutWord t.toInt false true) false }) ∧
    (-490 ≤ t.toInt → t.toInt ≤ 1130 →
      exec (.deEncode t .fahrenheit) s = .next { s with delivered := .encoded (layoutWord t.toInt true false) false })

/-- `43_display_register_multiplexer.md` section 3: the encoding loses nothing; two readings in range with one word are one
reading, and no word of a reading in range is the ERR word or the reset value. -/
def Obligations.EncodingIsInjectiveInRange : Prop :=
  ∀ (t t' : TenthsWord) (m m' : Mode) (w : DisplayWord) (s : State),
    exec (.deEncode t m) s = .next { s with delivered := .encoded w false } →
    exec (.deEncode t' m') s = .next { s with delivered := .encoded w false } →
    t = t' ∧ m = m' ∧ w ≠ 0x06F7EF80 ∧ w ≠ 0x00000000

/-! The update cycle -/

/-- R136: the four steps of an update cycle, from one snapshot, with one unconditional write of DISPLAY and nothing else changed. -/
def Obligations.UpdateCycleSteps : Prop :=
  ∀ s : State,
    ∃ (r : Reading) (sensorFault : Bool) (w : DisplayWord) (outOfRange : Bool),
      exec (.srRead s.sensor s.status) s = .next { s with delivered := .reading r sensorFault } ∧
      exec (.deEncode r.tenths r.mode) s = .next { s with delivered := .encoded w outOfRange } ∧
      exec .ucRun s =
        .next { s with
          display := w
          delivered := .status ⟨sensorFault, outOfRange, if sensorFault = false ∧ outOfRange = false then false else true⟩ }

/-- `44_update_cycle.md` section 2: the update cycle as one function of its snapshot, the decode, the conversion, the five layouts
and the statuses written out (truncation D16 and minus slot D26 are this spec's readings, log 9). -/
def Obligations.UpdateCycleIsItsTable : Prop :=
  ∀ s : State,
    ((s.status.getLsbD 2 = true ∨ s.sensor.toInt < 0 ∨ s.sensor.toInt > 28800) →
      exec .ucRun s = .next { s with display := 0x06F7EF80, delivered := .status ⟨true, true, true⟩ }) ∧
    (s.status.getLsbD 2 = false ∧ 0 ≤ s.sensor.toInt ∧ s.sensor.toInt ≤ 28800 ∧ s.status.getLsbD 5 = false →
      exec .ucRun s =
        .next { s with
          display := layoutWord ((s.sensor.toInt + 16) / 32 - 450) false true
          delivered := .status ⟨false, false, false⟩ }) ∧
    (s.status.getLsbD 2 = false ∧ 0 ≤ s.sensor.toInt ∧ s.sensor.toInt ≤ 28800 ∧ s.status.getLsbD 5 = true →
      exec .ucRun s =
        .next { s with
          display := layoutWord (Int.tdiv (((s.sensor.toInt + 16) / 32 - 450) * 9) 5 + 320) true false
          delivered := .status ⟨false, false, false⟩ })

/-- `44_update_cycle.md` section 2 with `30_encoding.md` section 1: in every cycle the two stage statuses agree, so format FLAGS
holds 000 or 111, and the status ports show it before the tick. -/
def Obligations.CycleStatusesAgree : Prop :=
  ∀ s : State, ∃ t : State, exec .ucRun s = .next t ∧ t.delivered = .status (statusPorts s) ∧
    (flagsBits (statusPorts s) = 0b000 ∨ flagsBits (statusPorts s) = 0b111)

/-- `44_update_cycle.md` section 2: a host that missed `degraded` recovers it from the display, by the ERR word or the mode bits. -/
def Obligations.DegradedIsReadFromTheDisplay : Prop :=
  ∀ (s t : State) (f : Flags), exec .ucRun s = .next t → t.delivered = .status f →
    (f.degraded = true ↔ t.display = 0x06F7EF80) ∧ (f.degraded = true ↔ t.display.extractLsb' 28 2 = 0b00)

/-- R5: the word and the statuses are functions of the two sampled inputs and of nothing else, and a second cycle on unchanged
inputs gives the same word. -/
def Obligations.CycleIsMemoryless : Prop :=
  ∀ s s' : State, s.sensor = s'.sensor → s.status = s'.status →
    ∃ t t' u : State, exec .ucRun s = .next t ∧ exec .ucRun s' = .next t' ∧ t.display = t'.display ∧ t.delivered = t'.delivered ∧
      exec .ucRun t = .next u ∧ u = t

/-- `10_state.md` section 2 with D2: no output of a cycle depends on STATUS bits 7, 6, 4, 3, 1, 0; and on a cycle that is faulted,
by the fault bit or by SENSOR outside 0..28800, the Fahrenheit bit has no effect either (`60_exceptions.md` section 3). That the six
bits are ignored is this spec's decision (log 11). -/
def Obligations.IgnoredStatusBitsHaveNoEffect : Prop :=
  ∀ (s : State) (st : StatusWord),
    (st &&& 0x24 = s.status &&& 0x24 ∨ st.getLsbD 2 = true ∧ s.status.getLsbD 2 = true ∨
      s.sensor.toInt < 0 ∨ s.sensor.toInt > 28800) →
    ∃ t t' : State, exec .ucRun s = .next t ∧ exec .ucRun { s with status := st } = .next t' ∧
      t'.display = t.display ∧ t'.delivered = t.delivered

/-! Boundary events -/

/-- R19: the environment replaces either input register by any value, and changes nothing else. -/
def Obligations.EnvironmentWritesOneInput : Prop :=
  ∀ (v : SensorWord) (st : StatusWord) (s : State),
    exec (.envSensor v) s = .next { s with sensor := v, delivered := .silent } ∧
    exec (.envStatus st) s = .next { s with status := st, delivered := .silent }

/-- R31: the host reads the current 32-bit value of DISPLAY, without side effect. -/
def Obligations.HostReadReturnsTheDisplay : Prop :=
  ∀ s : State, exec .hostRead s = .next { s with delivered := .word s.display }

/-- `70_reset_and_hazards.md` section 2: reset writes DISPLAY with 0x00000000, leaves both inputs, reports no status, and a tick
after it gives what the tick alone gives (the reset and its value are this spec's decision D11, log 10). -/
def Obligations.ResetClearsTheDisplayAlone : Prop :=
  ∀ s : State, exec .reset s = .next { s with display := 0x00000000, delivered := .silent } ∧
    exec .ucRun { s with display := 0x00000000, delivered := .silent } = exec .ucRun s

/-- `10_state.md` section 5: the state after reset shows the empty display, and has nothing pending. The pending list is the
model's (log 1); the values of SENSOR and STATUS there are the model's choice (log 5) and are not claimed. -/
def Obligations.ResetStateShowsNothing : Prop :=
  State.reset.display = 0x00000000 ∧ step State.reset = .next State.reset

/-- R42: of several environment writes between two cycles only the last is seen, and an earlier one leaves no trace. -/
def Obligations.OnlyTheLastEnvironmentWriteIsSeen : Prop :=
  ∀ (a b : SensorWord) (x y : StatusWord) (s t u : State),
    (exec (.envSensor a) s = .next t → exec (.envSensor b) t = exec (.envSensor b) s) ∧
    (exec (.envStatus x) s = .next u → exec (.envStatus y) u = exec (.envStatus y) s)

/-! The whole machine -/

/-- `60_exceptions.md` section 1: no operation traps, halts or is refused, whatever its operands (those outside a rule's operand
range included, where the value delivered is free, log 6 to log 8). -/
def Obligations.EveryOperationCompletes : Prop :=
  ∀ (i : Instr) (s : State), ∃ t : State, exec i s = .next t ∧ t.stimuli = s.stimuli

/-- R36: every operation but UC.RUN, RESET and the environment's writes leaves all three registers as they are. -/
def Obligations.PureOperationsTouchNoRegister : Prop :=
  ∀ (i : Instr) (s : State), i ≠ .ucRun → i ≠ .reset → (∀ v, i ≠ .envSensor v) → (∀ v, i ≠ .envStatus v) →
    ∃ o : Output, exec i s = .next { s with delivered := o }

/-- `20_memory.md` section 1 and section 2: only the update cycle and reset write DISPLAY, only the environment writes SENSOR and
STATUS, each its own register. -/
def Obligations.RegistersHaveOneWriter : Prop :=
  ∀ (i : Instr) (s t : State), exec i s = .next t →
    (t.display ≠ s.display → i = .ucRun ∨ i = .reset) ∧
    (t.sensor ≠ s.sensor → i = .envSensor t.sensor) ∧ (t.status ≠ s.status → i = .envStatus t.status)

/-- `00_scope.md` section 2 (one-way data flow): but for the host's read, no operation's outputs or inputs depend on what DISPLAY
held, and none on what was delivered before. -/
def Obligations.DisplayIsNeverReadByTheBlock : Prop :=
  ∀ (i : Instr) (s : State) (w : DisplayWord) (o : Output), i ≠ .hostRead →
    ∃ t t' : State, exec i s = .next t ∧ exec i { s with display := w, delivered := o } = .next t' ∧
      t'.delivered = t.delivered ∧ t'.sensor = t.sensor ∧ t'.status = t.status ∧
      t'.display = if i = .ucRun ∨ i = .reset then t.display else w

/-! The step -/

/-- `30_encoding.md` section 6: a step performs the operation that the next stimulus line selects, and takes that line off the list;
then the step is exec of it on the state without the line (the list is the model's, log 1). -/
def Obligations.StepRunsTheDecodedOperation : Prop :=
  ∀ (s : State) (l : Line) (rest : List Stimulus) (i : Instr), s.stimuli = .line l :: rest → decode l = .ok i →
    step s = exec i { s with stimuli := rest }

/-- `70_reset_and_hazards.md` sections 1 and 2: a clock edge with `rst` resets whatever `tick` is, the tick being lost; with `tick`
alone it runs one update cycle; with neither it changes nothing (D6, D11, log 15). -/
def Obligations.ClockEdgeResetWinsOverTick : Prop :=
  ∀ (s : State) (tick : Bool) (rest : List Stimulus),
    (s.stimuli = .edge true tick :: rest → step s = exec .reset { s with stimuli := rest }) ∧
    (s.stimuli = .edge false true :: rest → step s = exec .ucRun { s with stimuli := rest }) ∧
    (s.stimuli = .edge false false :: rest → step s = .next { s with stimuli := rest })

/-- `60_exceptions.md` sections 1 and 6: with nothing asked the block is idle and holds its state; a step is refused only for a
line that selects no operation, and otherwise takes exactly one stimulus off the list (log 1, log 13). -/
def Obligations.StepTakesOneStimulus : Prop :=
  ∀ s : State,
    (s.stimuli = [] → step s = .next s) ∧
    ∀ (x : Stimulus) (rest : List Stimulus), s.stimuli = x :: rest →
      (∃ t : State, step s = .next t ∧ t.stimuli = rest) ∨
      (∃ (l : Line) (e : DecodeError), x = .line l ∧ decode l = .error e ∧ step s = .refused (.malformedLine e))

/-- `44_update_cycle.md` section 1: DISPLAY changes in a step only on a tick or a reset, whatever else is on the list. -/
def Obligations.DisplayChangesOnlyOnTickOrReset : Prop :=
  ∀ s t : State, step s = .next t → t.display ≠ s.display →
    ∃ (x : Stimulus) (rest : List Stimulus), s.stimuli = x :: rest ∧
      (x = .line ⟨.tick, []⟩ ∨ x = .line ⟨.reset, []⟩ ∨ x = .edge false true ∨ ∃ tick, x = .edge true tick)

/-- `10_state.md` section 2 (R13): every step keeps DISPLAY a legal word (the reset value, ERR, or a digit word with exactly one
mode bit), bits 31:30 zero among it, from every state that has one. -/
def Obligations.StepKeepsTheDisplayLegal : Prop :=
  ∀ s t : State, Inv s → step s = .next t → Inv t ∧ unusedBits t.display = 0

/-- `10_state.md` sections 2 and 5: the display is legal in the state after reset. -/
def Obligations.ResetStateIsLegal : Prop :=
  Inv State.reset

/-- `10_state.md` section 2 with `70_reset_and_hazards.md` section 2: one update cycle or one reset makes the display legal from any
state, that of an unreset DISPLAY included; the word of a cycle is never the reset value. -/
def Obligations.OneCycleMakesTheDisplayLegal : Prop :=
  ∀ s : State,
    (∃ t : State, exec .ucRun s = .next t ∧ legalCycleWord t.display = true ∧ t.display ≠ 0x00000000) ∧
    (∃ u : State, exec .reset s = .next u ∧ Inv u)
end

