-- ==== Sys2Proof/Laws/Bits.lean ====
section
/-! SUPPORT. What the byte forms and codes of Decode.lean do: each reads back what it wrote. -/

namespace Sys2Proof

@[simp] theorem modeOfCode_modeCode (m : Mode) : modeOfCode (modeCode m) = m := by
  cases m <;> decide

theorem modeCode_modeOfCode (c : BitVec 2) : modeCode (modeOfCode c) = c := by
  revert c; decide

/-- The two bytes of a word are read back as the word. -/
@[simp] theorem word16_bytes (v : BitVec 16) : word16 (v.extractLsb' 0 8) (v.extractLsb' 8 8) = v := by
  apply BitVec.eq_of_getLsbD_eq
  intro i hi
  simp only [word16, BitVec.getLsbD_append, BitVec.getLsbD_extractLsb']
  split
  · next h => simp [h]
  · next h => simp [show i - 8 < 8 by omega, show 8 + (i - 8) = i by omega]

/-- A word made of two bytes has these bytes. -/
@[simp] theorem bytes16_word16 (b0 b1 : Byte) : bytes16 (word16 b0 b1) = [b0, b1] := by
  simp only [bytes16, word16, List.cons.injEq, and_true]
  constructor <;> apply BitVec.eq_of_getLsbD_eq <;> intro i hi
  · rw [BitVec.getLsbD_extractLsb', Nat.zero_add, BitVec.getLsbD_append]; simp [hi]
  · rw [BitVec.getLsbD_extractLsb', BitVec.getLsbD_append]; simp [hi]

/-- An operand's byte is read back as the operand. -/
@[simp] theorem operandOf_byteOf (w : Nat) (v : BitVec w) (h : w ≤ 8) : operandOf w (byteOf v) = .ok v := by
  have h1 := v.isLt
  have h2 : 2 ^ w ≤ 2 ^ 8 := Nat.pow_le_pow_right (by decide) h
  have h3 : (byteOf v).toNat = v.toNat := by
    simp only [byteOf, BitVec.toNat_ofNat]
    exact Nat.mod_eq_of_lt (by omega)
  simp [operandOf, h3, h1]

/-- A byte read as an operand is the operand's byte. -/
theorem operandOf_ok {w : Nat} {b : Byte} {v : BitVec w} (h : operandOf w b = .ok v) : byteOf v = b := by
  unfold operandOf at h
  split at h
  · next hb =>
    cases h
    apply BitVec.eq_of_toNat_eq
    simp only [byteOf, BitVec.toNat_ofNat, Nat.mod_eq_of_lt hb]
    exact Nat.mod_eq_of_lt b.isLt
  · cases h

@[simp] theorem digitOf_digitByte (d : Digit) : digitOf (digitByte d) = .ok d := by
  revert d; decide

theorem digitOf_ok {b : Byte} {d : Digit} (h : digitOf b = .ok d) : digitByte d = b := by
  unfold digitOf at h
  split at h
  · cases h
    apply BitVec.eq_of_toNat_eq
    simp only [digitByte, BitVec.toNat_ofNat]
    exact Nat.mod_eq_of_lt b.isLt
  · split at h <;> cases h

@[simp] theorem flagOf_flagByte (b : Bool) : flagOf (flagByte b) = .ok b := by
  cases b <;> decide

theorem flagOf_ok {b : Byte} {x : Bool} (h : flagOf b = .ok x) : flagByte x = b := by
  unfold flagOf at h
  split at h
  · next hb => cases h; exact hb.symm
  · split at h
    · next hb => cases h; exact hb.symm
    · cases h

@[simp] theorem modeOf_byteOf (m : Mode) : modeOf (byteOf (modeCode m)) = .ok m := by
  cases m <;> decide

theorem modeOf_ok {b : Byte} {m : Mode} (h : modeOf b = .ok m) : byteOf (modeCode m) = b := by
  cases hc : operandOf 2 b with
  | error e => simp [modeOf, hc, bind, Except.bind] at h
  | ok c =>
    simp only [modeOf, hc, bind, Except.bind, pure, Except.pure, Except.ok.injEq] at h
    rw [← h, modeCode_modeOfCode]
    exact operandOf_ok hc

/-- What a sequence of operand reads that ends well has read. -/
theorem bind_eq_ok {α β : Type} {x : Except DecodeError α} {f : α → Except DecodeError β} {b : β} (h : (x >>= f) = .ok b) :
    ∃ a, x = .ok a ∧ f a = .ok b := by
  cases x with
  | error e => cases h
  | ok a => exact ⟨a, rfl, h⟩

/-- The value of sixteen bits fits sixteen bits, signed. -/
@[simp] theorem fitsSigned16_toInt (v : BitVec 16) : fitsSigned16 v.toInt = true := by
  have h1 := BitVec.toInt_lt (x := v)
  have h2 := BitVec.le_toInt (x := v)
  simp only [fitsSigned16, decide_eq_true_eq]
  omega

/-- The value of sixteen bits fits sixteen bits, unsigned. -/
@[simp] theorem fitsUnsigned16_toNat (v : BitVec 16) : fitsUnsigned16 v.toNat = true := by
  have h := v.isLt
  simp only [fitsUnsigned16, decide_eq_true_eq]
  omega

/-- An integer that fits sixteen bits is read back from them. -/
theorem toInt_ofInt_of_fits {x : Int} (h : fitsSigned16 x = true) : (BitVec.ofInt 16 x).toInt = x := by
  simp only [fitsSigned16, decide_eq_true_eq] at h
  rw [BitVec.toInt_ofInt]
  exact Int.bmod_eq_of_le (by omega) (by omega)

/-- Which variant a STATUS value made of its fields selects (R60). -/
theorem decodeStat_statWord (hi : BitVec 2) (fahr : BitVec 1) (mid : BitVec 2) (fault : BitVec 1) (lo : BitVec 2) :
    decodeStat (statWord hi fahr mid fault lo) =
      if fault = 1 then .readFault hi fahr mid lo else if fahr = 0 then .readC hi mid lo else .readF hi mid lo := by
  revert hi fahr mid fault lo; decide

/-- The STATUS value of the variant it selects is itself (R60). -/
theorem encode_decodeStat (st : StatusWord) : encode (decodeStat st) = ⟨.stat, [st]⟩ := by
  revert st; decide

end Sys2Proof
end

