-- ==== Sys2Proof/Laws/State.lean ====
section
/-! SUPPORT. What each named operation on the state changes and keeps: one lemma per field per update. -/

namespace Sys2Proof.Machine

@[simp] theorem State.writeDisplay_sensor (s : State) (w : DisplayWord) : (s.writeDisplay w).sensor = s.sensor := rfl

@[simp] theorem State.writeDisplay_status (s : State) (w : DisplayWord) : (s.writeDisplay w).status = s.status := rfl

@[simp] theorem State.writeDisplay_display (s : State) (w : DisplayWord) : (s.writeDisplay w).display = w := rfl

@[simp] theorem State.writeDisplay_delivered (s : State) (w : DisplayWord) : (s.writeDisplay w).delivered = s.delivered := rfl

@[simp] theorem State.writeDisplay_stimuli (s : State) (w : DisplayWord) : (s.writeDisplay w).stimuli = s.stimuli := rfl

@[simp] theorem State.envWriteSensor_sensor (s : State) (v : SensorWord) : (s.envWriteSensor v).sensor = v := rfl

@[simp] theorem State.envWriteSensor_status (s : State) (v : SensorWord) : (s.envWriteSensor v).status = s.status := rfl

@[simp] theorem State.envWriteSensor_display (s : State) (v : SensorWord) : (s.envWriteSensor v).display = s.display := rfl

@[simp] theorem State.envWriteSensor_delivered (s : State) (v : SensorWord) : (s.envWriteSensor v).delivered = s.delivered := rfl

@[simp] theorem State.envWriteSensor_stimuli (s : State) (v : SensorWord) : (s.envWriteSensor v).stimuli = s.stimuli := rfl

@[simp] theorem State.envWriteStatus_sensor (s : State) (v : StatusWord) : (s.envWriteStatus v).sensor = s.sensor := rfl

@[simp] theorem State.envWriteStatus_status (s : State) (v : StatusWord) : (s.envWriteStatus v).status = v := rfl

@[simp] theorem State.envWriteStatus_display (s : State) (v : StatusWord) : (s.envWriteStatus v).display = s.display := rfl

@[simp] theorem State.envWriteStatus_delivered (s : State) (v : StatusWord) : (s.envWriteStatus v).delivered = s.delivered := rfl

@[simp] theorem State.envWriteStatus_stimuli (s : State) (v : StatusWord) : (s.envWriteStatus v).stimuli = s.stimuli := rfl

@[simp] theorem State.deliver_sensor (s : State) (o : Output) : (s.deliver o).sensor = s.sensor := rfl

@[simp] theorem State.deliver_status (s : State) (o : Output) : (s.deliver o).status = s.status := rfl

@[simp] theorem State.deliver_display (s : State) (o : Output) : (s.deliver o).display = s.display := rfl

@[simp] theorem State.deliver_delivered (s : State) (o : Output) : (s.deliver o).delivered = o := rfl

@[simp] theorem State.deliver_stimuli (s : State) (o : Output) : (s.deliver o).stimuli = s.stimuli := rfl

@[simp] theorem State.withStimuli_sensor (s : State) (xs : List Stimulus) : (s.withStimuli xs).sensor = s.sensor := rfl

@[simp] theorem State.withStimuli_status (s : State) (xs : List Stimulus) : (s.withStimuli xs).status = s.status := rfl

@[simp] theorem State.withStimuli_display (s : State) (xs : List Stimulus) : (s.withStimuli xs).display = s.display := rfl

@[simp] theorem State.withStimuli_delivered (s : State) (xs : List Stimulus) : (s.withStimuli xs).delivered = s.delivered := rfl

@[simp] theorem State.withStimuli_stimuli (s : State) (xs : List Stimulus) : (s.withStimuli xs).stimuli = xs := rfl

@[simp] theorem State.resetDisplay_sensor (s : State) : s.resetDisplay.sensor = s.sensor := rfl

@[simp] theorem State.resetDisplay_status (s : State) : s.resetDisplay.status = s.status := rfl

@[simp] theorem State.resetDisplay_display (s : State) : s.resetDisplay.display = displayReset := rfl

@[simp] theorem State.resetDisplay_delivered (s : State) : s.resetDisplay.delivered = s.delivered := rfl

@[simp] theorem State.resetDisplay_stimuli (s : State) : s.resetDisplay.stimuli = s.stimuli := rfl

@[simp] theorem State.readSensor_eq (s : State) : s.readSensor = s.sensor := rfl

@[simp] theorem State.readStatus_eq (s : State) : s.readStatus = s.status := rfl

@[simp] theorem State.readDisplay_eq (s : State) : s.readDisplay = s.display := rfl

/-- Of two deliveries only the later is seen. -/
@[simp] theorem State.deliver_deliver (s : State) (o o' : Output) : (s.deliver o).deliver o' = s.deliver o' := rfl

/-- Of two writes of DISPLAY only the later is seen. -/
@[simp] theorem State.writeDisplay_writeDisplay (s : State) (w w' : DisplayWord) :
    (s.writeDisplay w).writeDisplay w' = s.writeDisplay w' := rfl

/-- A state is its five fields. -/
theorem State.ext_fields (s t : State) (h1 : s.sensor = t.sensor) (h2 : s.status = t.status) (h3 : s.display = t.display)
    (h4 : s.delivered = t.delivered) (h5 : s.stimuli = t.stimuli) : s = t := by
  cases s; cases t; simp_all

end Sys2Proof.Machine
end

