-- ==== Sys2Proof/Laws/Exec.lean ====
section
/-! SUPPORT. What the pure operations compute, and everything an operation and a step can do. -/

namespace Sys2Proof.Machine

/-! Operands -/

theorem sensorInRange_iff (v : SensorWord) : sensorInRange v = true ↔ 0 ≤ v.toInt ∧ v.toInt ≤ 28800 := by
  simp [sensorInRange, sensorValue]

theorem srdValid_iff (v : SensorWord) (st : StatusWord) :
    srdValid v st = true ↔ (0 ≤ v.toInt ∧ v.toInt ≤ 28800) ∧ st.getLsbD 2 = false := by
  simp [srdValid, sensorInRange, sensorValue, faultFlag]

/-- The fraction field is the remainder by 32 (R58). -/
theorem fracField_toNat (v : SensorWord) : (fracField v).toNat = v.toNat % 32 := by
  simp [fracField, BitVec.extractLsb'_toNat]

/-- The biased field is the quotient by 32, less the sign bit (R58). -/
theorem biasedField_toNat (v : SensorWord) : (biasedField v).toNat = v.toNat / 32 % 1024 := by
  simp [biasedField, BitVec.extractLsb'_toNat, Nat.shiftRight_eq_div_pow]

/-- A sensor word of a value in range is that value as a natural number. -/
theorem toNat_of_inRange {v : SensorWord} (h : 0 ≤ v.toInt ∧ v.toInt ≤ 28800) : v.toInt = (v.toNat : Int) ∧ v.toNat ≤ 28800 := by
  have := v.isLt
  rw [BitVec.toInt_eq_toNat_cond] at *
  split at h <;> simp_all
  omega

theorem srdFrac_of_inRange {v : SensorWord} (h : 0 ≤ v.toInt ∧ v.toInt ≤ 28800) : srdFrac v = fracField v := by
  simp [srdFrac, (sensorInRange_iff v).2 h]

/-- SRD.UNBIAS on a valid value (R73). -/
theorem srdUnbias_of_inRange {v : SensorWord} (h : 0 ≤ v.toInt ∧ v.toInt ≤ 28800) : srdUnbias v = v.toInt / 32 - 450 := by
  obtain ⟨h1, h2⟩ := toNat_of_inRange h
  simp only [srdUnbias, (sensorInRange_iff v).2 h, if_true, biasedField_toNat, bias, h1]
  omega

/-- SRD.CELSIUS on a valid value, in closed form (R75). -/
theorem srdCelsius_of_inRange {v : SensorWord} (h : 0 ≤ v.toInt ∧ v.toInt ≤ 28800) :
    srdCelsius v = (v.toInt + 16) / 32 - 450 := by
  obtain ⟨h1, h2⟩ := toNat_of_inRange h
  simp only [srdCelsius, srdRound, srdUnbias_of_inRange h, srdFrac_of_inRange h, fracField_toNat, roundAt, h1]
  split <;> omega

/-- The range of the decode (R76). -/
theorem srdCelsius_range {v : SensorWord} (h : 0 ≤ v.toInt ∧ v.toInt ≤ 28800) : -450 ≤ srdCelsius v ∧ srdCelsius v ≤ 450 := by
  rw [srdCelsius_of_inRange h]; omega

/-- CFC.CONVERT in its operand range, the two signs apart (R86, R87). -/
theorem cfcConvert_of_inRange {c : Int} (h : -450 ≤ c ∧ c ≤ 450) :
    cfcConvert c = if 0 ≤ c then c * 9 / 5 + 320 else -(-(c * 9) / 5) + 320 := by
  simp only [cfcConvert, cMin, cMax, fMul, fDiv, fOff, if_pos h]
  split
  · rw [Int.tdiv_eq_ediv_of_nonneg (by omega)]
  · rw [show c * 9 = -(-(c * 9)) by omega, Int.neg_tdiv, Int.tdiv_eq_ediv_of_nonneg (by omega), Int.neg_neg]

/-- The range of the conversion (R88). -/
theorem cfcConvert_range {c : Int} (h : -450 ≤ c ∧ c ≤ 450) : -490 ≤ cfcConvert c ∧ cfcConvert c ≤ 1130 := by
  rw [cfcConvert_of_inRange h]; split <;> omega

/-- The bus holds every value a reading takes (R89). -/
theorem tenthsWord_toInt {x : Int} (h : -490 ≤ x ∧ x ≤ 1130) : (tenthsWord x).toInt = x := by
  simp only [tenthsWord, BitVec.toInt_ofInt]
  exact Int.bmod_eq_of_le (by omega) (by omega)

/-- SR.READ, its three variants (R60, R78). -/
theorem srRead_cases (v : SensorWord) (st : StatusWord) :
    (srdValid v st = false ∧ srRead v st = (⟨0, .error⟩, true)) ∨
    (srdValid v st = true ∧ st.getLsbD 5 = false ∧ srRead v st = (⟨tenthsWord (srdCelsius v), .celsius⟩, false)) ∨
    (srdValid v st = true ∧ st.getLsbD 5 = true ∧
      srRead v st = (⟨tenthsWord (cfcConvert (srdCelsius v)), .fahrenheit⟩, false)) := by
  cases h : srdValid v st <;> cases h5 : st.getLsbD 5 <;> simp_all [srRead, fahrFlag]

/-- SSE.SIGNMAG in its operand range (R97). -/
theorem sseSignmag_of_inRange {t : TenthsWord} (h : -490 ≤ t.toInt ∧ t.toInt ≤ 1130) :
    sseSignmag t = (decide (t.toInt < 0), t.toInt.natAbs) := by
  simp [sseSignmag, tenthsValue, h]

/-- SSE.DIGITS below 10000 (R98). -/
theorem sseDigits_of_lt {mag : Nat} (h : mag < 10000) :
    sseDigits mag = (digitOfNat mag, digitOfNat (mag / 10), digitOfNat (mag / 100), digitOfNat (mag / 1000)) := by
  simp [sseDigits, h, Nat.div_div_eq_div_mul]

@[simp] theorem digitOfNat_val (n : Nat) : (digitOfNat n).val = n % 10 := rfl

theorem digitOfNat_eq_zero (n : Nat) : digitOfNat n = 0 ↔ n % 10 = 0 := by
  simp [Fin.ext_iff]

/-- The table's patterns are distinct (R100). -/
theorem sseSeg_injective : Function.Injective sseSeg := by
  intro a b; revert a b; decide

/-- The readings that pass the range check (R111). -/
theorem drmRange_iff (r : Reading) :
    drmRange r = true ↔ (r.mode = .celsius ∧ -450 ≤ r.tenths.toInt ∧ r.tenths.toInt ≤ 450) ∨
      (r.mode = .fahrenheit ∧ -490 ≤ r.tenths.toInt ∧ r.tenths.toInt ≤ 1130) := by
  cases r with
  | mk t m => cases m <;> simp [drmRange, tenthsValue]

/-- A reading that passes the range check has a value SSE is used on (R95). -/
theorem tenths_of_drmRange {r : Reading} (h : drmRange r = true) : -490 ≤ r.tenths.toInt ∧ r.tenths.toInt ≤ 1130 := by
  rcases (drmRange_iff r).1 h with ⟨-, h1, h2⟩ | ⟨-, h1, h2⟩ <;> omega

/-- DE.ENCODE, its two sources (R118). -/
theorem deEncode_cases (r : Reading) :
    (drmRange r = false ∧ deEncode r = (errWord, true)) ∨ (drmRange r = true ∧ deEncode r = (digitWord r, false)) := by
  cases h : drmRange r <;> simp [deEncode, h]

/-- DRM.ASSEMBLE as a concatenation of the fields (R59, R116). -/
theorem drmAssemble_eq_append (f0 f1 f2 f3 m2 m3 : Pattern) (cm fm : Bool) :
    drmAssemble f0 f1 f2 f3 m2 m3 cm fm =
      0#2 ++ BitVec.ofBool fm ++ BitVec.ofBool cm ++ (f3 ||| m3) ++ (f2 ||| m2) ++ f1 ++ f0 := by
  apply BitVec.eq_of_getLsbD_eq
  intro i hi
  simp only [drmAssemble, placePattern, placeBit, BitVec.getLsbD_or, BitVec.getLsbD_shiftLeft, BitVec.getLsbD_setWidth,
    BitVec.getLsbD_append]
  interval_cases i <;> simp

/-- The digit word with what each sub-operation delivers in its place (R118). -/
theorem digitWord_eq {r : Reading} {negative : Bool} {mag : Nat} {d0 d1 d2 d3 : Digit}
    (hs : sseSignmag r.tenths = (negative, mag)) (hd : sseDigits mag = (d0, d1, d2, d3)) :
    digitWord r =
      drmAssemble (sseSeg d0) (sseSeg d1) (if d2 ≠ 0 ∨ d3 ≠ 0 then sseSeg d2 else blankPattern)
        (if d3 ≠ 0 then sseSeg d3 else blankPattern) (drmMinus negative d2 d3).1 (drmMinus negative d2 d3).2
        (drmModebits r.mode).1 (drmModebits r.mode).2 := by
  simp only [digitWord, hs, hd, drmFields]

/-- The reading of a valid Celsius snapshot passes the range check (R139). -/
theorem drmRange_celsius {v : SensorWord} (h : 0 ≤ v.toInt ∧ v.toInt ≤ 28800) :
    drmRange ⟨tenthsWord (srdCelsius v), .celsius⟩ = true := by
  have hr := srdCelsius_range h
  exact (drmRange_iff _).2 (.inl ⟨rfl, by simpa only [tenthsWord_toInt (x := srdCelsius v) (by omega)] using hr⟩)

/-- The reading of a valid Fahrenheit snapshot passes the range check (R139). -/
theorem drmRange_fahrenheit {v : SensorWord} (h : 0 ≤ v.toInt ∧ v.toInt ≤ 28800) :
    drmRange ⟨tenthsWord (cfcConvert (srdCelsius v)), .fahrenheit⟩ = true := by
  have hr := cfcConvert_range (srdCelsius_range h)
  exact (drmRange_iff _).2 (.inr ⟨rfl, by simpa only [tenthsWord_toInt hr] using hr⟩)

/-- An update cycle's three outcomes on its snapshot (R136, R139). -/
theorem cycleResult_cases (v : SensorWord) (st : StatusWord) :
    (srdValid v st = false ∧ cycleResult v st = (errWord, ⟨true, true, true⟩)) ∨
    (srdValid v st = true ∧ st.getLsbD 5 = false ∧
      cycleResult v st = (digitWord ⟨tenthsWord (srdCelsius v), .celsius⟩, ⟨false, false, false⟩)) ∨
    (srdValid v st = true ∧ st.getLsbD 5 = true ∧
      cycleResult v st = (digitWord ⟨tenthsWord (cfcConvert (srdCelsius v)), .fahrenheit⟩, ⟨false, false, false⟩)) := by
  rcases srRead_cases v st with ⟨hv, h⟩ | ⟨hv, h5, h⟩ | ⟨hv, h5, h⟩
  · exact .inl ⟨hv, by simp [cycleResult, h, deEncode, drmRange, cycleFlags]⟩
  · refine .inr (.inl ⟨hv, h5, ?_⟩)
    simp [cycleResult, h, deEncode, drmRange_celsius ((srdValid_iff v st).1 hv).1, cycleFlags]
  · refine .inr (.inr ⟨hv, h5, ?_⟩)
    simp [cycleResult, h, deEncode, drmRange_fahrenheit ((srdValid_iff v st).1 hv).1, cycleFlags]

/-- UC.RUN by its result on the snapshot (R136). -/
theorem exec_ucRun (s : State) :
    exec .ucRun s =
      .next ((s.writeDisplay (cycleResult s.sensor s.status).1).deliver (.status (cycleResult s.sensor s.status).2)) := rfl

/-- Everything an operation can do: it always gives a next state, and that state differs from the one before in what is
delivered, and in DISPLAY, SENSOR or STATUS for the four operations that write one (R12, R31, R37). -/
theorem exec_cases (i : Instr) (s : State) :
    (∃ o, exec i s = .next (s.deliver o)) ∨
    (i = .ucRun ∧ ∃ o, exec i s = .next ((s.writeDisplay (cycleResult s.sensor s.status).1).deliver o)) ∨
    (i = .reset ∧ exec i s = .next (s.resetDisplay.deliver .silent)) ∨
    (∃ v, i = .envSensor v ∧ exec i s = .next ((s.envWriteSensor v).deliver .silent)) ∨
    (∃ v, i = .envStatus v ∧ exec i s = .next ((s.envWriteStatus v).deliver .silent)) := by
  cases i
  case ucRun => exact .inr (.inl ⟨rfl, _, rfl⟩)
  case reset => exact .inr (.inr (.inl ⟨rfl, rfl⟩))
  case envSensor v => exact .inr (.inr (.inr (.inl ⟨v, rfl, rfl⟩)))
  case envStatus v => exact .inr (.inr (.inr (.inr ⟨v, rfl, rfl⟩)))
  all_goals exact .inl ⟨_, rfl⟩

/-- Everything a step can do with the next stimulus. -/
theorem step_cases (s : State) :
    (s.stimuli = [] ∧ step s = .next s) ∨
    ∃ x rest, s.stimuli = x :: rest ∧
      ((∃ e, stimulusOperation x = .error e ∧ step s = .refused (.malformedLine e)) ∨
       (stimulusOperation x = .ok none ∧ step s = .next (s.withStimuli rest)) ∨
       (∃ i, stimulusOperation x = .ok (some i) ∧ step s = exec i (s.withStimuli rest))) := by
  cases h : s.stimuli with
  | nil => exact .inl ⟨rfl, by simp [step, h]⟩
  | cons x rest =>
    refine .inr ⟨x, rest, rfl, ?_⟩
    cases hx : stimulusOperation x with
    | error e => exact .inl ⟨e, rfl, by simp [step, h, hx]⟩
    | ok o =>
      cases o with
      | none => exact .inr (.inl ⟨rfl, by simp [step, h, hx]⟩)
      | some i => exact .inr (.inr ⟨i, rfl, by simp [step, h, hx]⟩)

end Sys2Proof.Machine
end

