-- ==== Sys2Proof/Laws/PerInstr.lean ====
section
/-! SUPPORT. Per operation: the line that carries it has its format's one length (R45). -/

namespace Sys2Proof.Laws

/-- The number of bytes a line of a key has (R45: every format has one length; the byte forms of log 2). -/
def lineLength : Key → Nat
  | .stat | .digit | .envStatus | .sseSeg | .drmModebits => 1
  | .trec | .srdValid | .srdRound | .srRead | .drmRange | .drmMinus | .deEncode => 3
  | .tick | .reset | .hostRead | .drmErr => 0
  | .envSensor | .srdFrac | .srdUnbias | .srdCelsius | .cfcConvert | .sseSignmag | .sseDigits => 2
  | .drmFields => 6
  | .drmAssemble => 8

/-- The line of an operation has the one length of its key. -/
def FixedLength.Statement (i : Instr) : Prop := (encode i).bits.length = lineLength (encode i).key

theorem FixedLength.readFault (hi : BitVec 2) (fahr : BitVec 1) (mid lo : BitVec 2) : FixedLength.Statement (.readFault hi fahr mid lo) := rfl
theorem FixedLength.readC (hi mid lo : BitVec 2) : FixedLength.Statement (.readC hi mid lo) := rfl
theorem FixedLength.readF (hi mid lo : BitVec 2) : FixedLength.Statement (.readF hi mid lo) := rfl
theorem FixedLength.encC (t : TenthsWord) : FixedLength.Statement (.encC t) := rfl
theorem FixedLength.encF (t : TenthsWord) : FixedLength.Statement (.encF t) := rfl
theorem FixedLength.encErr (t : TenthsWord) : FixedLength.Statement (.encErr t) := rfl
theorem FixedLength.encRsvd (t : TenthsWord) : FixedLength.Statement (.encRsvd t) := rfl
theorem FixedLength.seg0 : FixedLength.Statement .seg0 := rfl
theorem FixedLength.seg1 : FixedLength.Statement .seg1 := rfl
theorem FixedLength.seg2 : FixedLength.Statement .seg2 := rfl
theorem FixedLength.seg3 : FixedLength.Statement .seg3 := rfl
theorem FixedLength.seg4 : FixedLength.Statement .seg4 := rfl
theorem FixedLength.seg5 : FixedLength.Statement .seg5 := rfl
theorem FixedLength.seg6 : FixedLength.Statement .seg6 := rfl
theorem FixedLength.seg7 : FixedLength.Statement .seg7 := rfl
theorem FixedLength.seg8 : FixedLength.Statement .seg8 := rfl
theorem FixedLength.seg9 : FixedLength.Statement .seg9 := rfl
theorem FixedLength.ucRun : FixedLength.Statement .ucRun := rfl
theorem FixedLength.reset : FixedLength.Statement .reset := rfl
theorem FixedLength.envSensor (v : SensorWord) : FixedLength.Statement (.envSensor v) := rfl
theorem FixedLength.envStatus (v : StatusWord) : FixedLength.Statement (.envStatus v) := rfl
theorem FixedLength.hostRead : FixedLength.Statement .hostRead := rfl
theorem FixedLength.srdValid (s : SensorWord) (st : StatusWord) : FixedLength.Statement (.srdValid s st) := rfl
theorem FixedLength.srdFrac (s : SensorWord) : FixedLength.Statement (.srdFrac s) := rfl
theorem FixedLength.srdUnbias (s : SensorWord) : FixedLength.Statement (.srdUnbias s) := rfl
theorem FixedLength.srdRound (base : Int) (frac : BitVec 5) : FixedLength.Statement (.srdRound base frac) := rfl
theorem FixedLength.srdCelsius (s : SensorWord) : FixedLength.Statement (.srdCelsius s) := rfl
theorem FixedLength.srRead (s : SensorWord) (st : StatusWord) : FixedLength.Statement (.srRead s st) := rfl
theorem FixedLength.cfcConvert (c : Int) : FixedLength.Statement (.cfcConvert c) := rfl
theorem FixedLength.sseSignmag (t : TenthsWord) : FixedLength.Statement (.sseSignmag t) := rfl
theorem FixedLength.sseDigits (mag : Nat) : FixedLength.Statement (.sseDigits mag) := rfl
theorem FixedLength.sseSeg (d : Digit) : FixedLength.Statement (.sseSeg d) := rfl
theorem FixedLength.drmRange (t : TenthsWord) (m : Mode) : FixedLength.Statement (.drmRange t m) := rfl
theorem FixedLength.drmFields (d2 d3 : Digit) (p0 p1 p2 p3 : Pattern) : FixedLength.Statement (.drmFields d2 d3 p0 p1 p2 p3) := rfl
theorem FixedLength.drmMinus (negative : Bool) (d2 d3 : Digit) : FixedLength.Statement (.drmMinus negative d2 d3) := rfl
theorem FixedLength.drmModebits (m : Mode) : FixedLength.Statement (.drmModebits m) := rfl
theorem FixedLength.drmAssemble (f0 f1 f2 f3 m2 m3 : Pattern) (cm fm : Bool) : FixedLength.Statement (.drmAssemble f0 f1 f2 f3 m2 m3 cm fm) := rfl
theorem FixedLength.drmErr : FixedLength.Statement .drmErr := rfl
theorem FixedLength.deEncode (t : TenthsWord) (m : Mode) : FixedLength.Statement (.deEncode t m) := rfl

end Sys2Proof.Laws
end

