-- ==== Sys2Proof/Tests/Slice0.lean ====
section
/-! SUPPORT. Small tests: the well-formedness smoke, one line per constructor read by the decoder, one step per constructor against a
vector of `95_test_vectors.md` or a corner case of a rule, and the witnesses that the statements' hypotheses can be met. -/

namespace Sys2Proof.Tests

open Sys2Proof.Machine

/-- The operation of a line, if any. -/
def decoded (key : Key) (bits : List Byte) : Option Instr := (decode ⟨key, bits⟩).toOption

/-- Why a line is refused, if it is. -/
def refusedFor (key : Key) (bits : List Byte) : Option DecodeError :=
  match decode ⟨key, bits⟩ with
  | .ok _ => none
  | .error e => some e

/-- A state with given inputs, an old word on the display and nothing pending. -/
def st (sensor : SensorWord) (status : StatusWord) : State := ⟨sensor, status, 0xFFFFFFFF, .silent, []⟩

/-- The same state with stimuli pending. -/
def pending (xs : List Stimulus) : State := ⟨0x3840, 0x00, 0x06F7EF80, .silent, xs⟩

/-- What an operation delivers on a state. -/
def gives (i : Instr) (s : State) : Option Output := (nextOf (exec i s)).map State.delivered

/-- What DISPLAY holds after an operation. -/
def shows (i : Instr) (s : State) : Option DisplayWord := (nextOf (exec i s)).map State.display

/-! Well-formedness: an ill-formed term for each check. -/

theorem test_wellFormed_round_base_too_large : Instr.wellFormed (.srdRound 32768 0) = false := by decide
theorem test_wellFormed_round_base_too_small : Instr.wellFormed (.srdRound (-32769) 0) = false := by decide
theorem test_wellFormed_convert_too_large : Instr.wellFormed (.cfcConvert 32768) = false := by decide
theorem test_wellFormed_digits_too_large : Instr.wellFormed (.sseDigits 65536) = false := by decide
theorem test_wellFormed_bounds : WellFormed (.srdRound (-32768) 31) ∧ WellFormed (.sseDigits 65535) := by decide

/-! Decoding: lines written out from R47, R48, R62 and, for rows without bits, from log 2. -/

theorem test_decode_readFault : decoded .stat [0b01011110] = some (.readFault 0b01 0 0b11 0b10) := by decide
theorem test_decode_readFault_fahr : decoded .stat [0x24] = some (.readFault 0 1 0 0) := by decide
theorem test_decode_readC : decoded .stat [0b11011011] = some (.readC 0b11 0b11 0b11) := by decide
theorem test_decode_readF : decoded .stat [0b01110001] = some (.readF 0b01 0b10 0b01) := by decide
theorem test_decode_encC : decoded .trec [0xD7, 0x00, 1] = some (.encC 215) := by decide
theorem test_decode_encF : decoded .trec [0x16, 0xFE, 2] = some (.encF (-490)) := by decide
theorem test_decode_encErr : decoded .trec [0x00, 0x00, 3] = some (.encErr 0) := by decide
theorem test_decode_encRsvd : decoded .trec [0x00, 0x80, 0] = some (.encRsvd 0x8000) := by decide
theorem test_decode_seg0 : decoded .digit [0b0000] = some .seg0 := by decide
theorem test_decode_seg1 : decoded .digit [0b0001] = some .seg1 := by decide
theorem test_decode_seg2 : decoded .digit [0b0010] = some .seg2 := by decide
theorem test_decode_seg3 : decoded .digit [0b0011] = some .seg3 := by decide
theorem test_decode_seg4 : decoded .digit [0b0100] = some .seg4 := by decide
theorem test_decode_seg5 : decoded .digit [0b0101] = some .seg5 := by decide
theorem test_decode_seg6 : decoded .digit [0b0110] = some .seg6 := by decide
theorem test_decode_seg7 : decoded .digit [0b0111] = some .seg7 := by decide
theorem test_decode_seg8 : decoded .digit [0b1000] = some .seg8 := by decide
theorem test_decode_seg9 : decoded .digit [0b1001] = some .seg9 := by decide
theorem test_decode_digit_ten_refused : refusedFor .digit [0b1010] = some .noSuchDigit := by decide
theorem test_decode_ucRun : decoded .tick [] = some .ucRun := by decide
theorem test_decode_reset : decoded .reset [] = some .reset := by decide
theorem test_decode_envSensor : decoded .envSensor [0x20, 0x53] = some (.envSensor 21280) := by decide
theorem test_decode_envStatus : decoded .envStatus [0xDB] = some (.envStatus 0xDB) := by decide
theorem test_decode_hostRead : decoded .hostRead [] = some .hostRead := by decide
theorem test_decode_srdValid : decoded .srdValid [0x40, 0x38, 0x04] = some (.srdValid 14400 0x04) := by decide
theorem test_decode_srdFrac : decoded .srdFrac [0x50, 0x38] = some (.srdFrac 14416) := by decide
theorem test_decode_srdUnbias : decoded .srdUnbias [0x20, 0x53] = some (.srdUnbias 21280) := by decide
theorem test_decode_srdRound : decoded .srdRound [0xFB, 0xFF, 16] = some (.srdRound (-5) 16) := by decide
theorem test_decode_srdCelsius : decoded .srdCelsius [0x80, 0x70] = some (.srdCelsius 28800) := by decide
theorem test_decode_srRead : decoded .srRead [0xFF, 0xFF, 0x20] = some (.srRead (-1) 0x20) := by decide
theorem test_decode_cfcConvert : decoded .cfcConvert [0x4E, 0xFF] = some (.cfcConvert (-178)) := by decide
theorem test_decode_sseSignmag : decoded .sseSignmag [0xC9, 0xFF] = some (.sseSignmag (-55)) := by decide
theorem test_decode_sseDigits : decoded .sseDigits [0x6A, 0x04] = some (.sseDigits 1130) := by decide
theorem test_decode_sseSeg : decoded .sseSeg [5] = some (.sseSeg 5) := by decide
theorem test_decode_drmRange : decoded .drmRange [0xC3, 0x01, 1] = some (.drmRange 451 .celsius) := by decide
theorem test_decode_drmFields :
    decoded .drmFields [2, 0, 0x67, 0x48, 0x3D, 0x7B] = some (.drmFields 2 0 0x67 0x48 0x3D 0x7B) := by decide
theorem test_decode_drmMinus : decoded .drmMinus [1, 1, 0] = some (.drmMinus true 1 0) := by decide
theorem test_decode_drmModebits : decoded .drmModebits [2] = some (.drmModebits .fahrenheit) := by decide
theorem test_decode_drmAssemble :
    decoded .drmAssemble [0x67, 0x48, 0x3D, 0, 0, 0x04, 1, 0] = some (.drmAssemble 0x67 0x48 0x3D 0 0 0x04 true false) := by
  decide
theorem test_decode_drmErr : decoded .drmErr [] = some .drmErr := by decide
theorem test_decode_deEncode : decoded .deEncode [0xC3, 0x01, 2] = some (.deEncode 451 .fahrenheit) := by decide
theorem test_decode_pattern_bit7_refused : refusedFor .drmFields [2, 0, 0x80, 0, 0, 0] = some .reservedBits := by decide
theorem test_decode_tick_with_byte_refused : refusedFor .tick [0] = some .wrongLength := by decide

/-! The table's words, as the host numbers them (log 16). -/

theorem test_word_readF : decodeTableWord 8 0x20 = some (.readF 0 0 0) := by decide
theorem test_word_encF : decodeTableWord 24 0x2FFFB = some (.encF (-5)) := by decide
theorem test_word_seg9 : decodeTableWord 8 9 = some .seg9 := by decide
theorem test_word_runs_after_reset :
    ((nextOf (step (State.reset.withFetchWord 24 0x100D7))).map State.delivered) = some (.encoded 0x100F6467 false) := by decide

/-! One step per constructor. Expected values: `95_test_vectors.md` sections 2 and 3, or the rule named. -/

theorem test_readFault : gives (.readFault 0 1 0 0) (st 14400 0) = some (.reading ⟨0, .error⟩ true) := by decide
theorem test_readC : gives (.readC 3 3 3) (st 14416 0) = some (.reading ⟨1, .celsius⟩ false) := by decide
theorem test_readF : gives (.readF 0 0 0) (st 14368 0) = some (.reading ⟨319, .fahrenheit⟩ false) := by decide
theorem test_readF_out_of_range : gives (.readF 0 0 0) (st 28801 0) = some (.reading ⟨0, .error⟩ true) := by decide
theorem test_encC : gives (.encC (-155)) (st 0 0) = some (.encoded 0x109233E7 false) := by decide
theorem test_encC_out_of_range : gives (.encC 451) (st 0 0) = some (.encoded 0x06F7EF80 true) := by decide
theorem test_encF : gives (.encF 1005) (st 0 0) = some (.encoded 0x291EFDE7 false) := by decide
theorem test_encErr : gives (.encErr 215) (st 0 0) = some (.encoded 0x06F7EF80 true) := by decide
theorem test_encRsvd : gives (.encRsvd 215) (st 0 0) = some (.encoded 0x06F7EF80 true) := by decide
theorem test_seg0 : gives .seg0 (st 0 0) = some (.pattern 123) := by decide
theorem test_seg1 : gives .seg1 (st 0 0) = some (.pattern 72) := by decide
theorem test_seg2 : gives .seg2 (st 0 0) = some (.pattern 61) := by decide
theorem test_seg3 : gives .seg3 (st 0 0) = some (.pattern 109) := by decide
theorem test_seg4 : gives .seg4 (st 0 0) = some (.pattern 78) := by decide
theorem test_seg5 : gives .seg5 (st 0 0) = some (.pattern 103) := by decide
theorem test_seg6 : gives .seg6 (st 0 0) = some (.pattern 119) := by decide
theorem test_seg7 : gives .seg7 (st 0 0) = some (.pattern 73) := by decide
theorem test_seg8 : gives .seg8 (st 0 0) = some (.pattern 127) := by decide
theorem test_seg9 : gives .seg9 (st 0 0) = some (.pattern 111) := by decide
theorem test_ucRun_negative_fahrenheit : shows .ucRun (st 0x21E0 0x20) = some 0x20013DBD := by decide
theorem test_ucRun_fault_statuses : gives .ucRun (st 0x3840 0xFF) = some (.status ⟨true, true, true⟩) := by decide
theorem test_reset : shows .reset (st 0x3840 0) = some 0x00000000 := by decide
theorem test_envSensor : (nextOf (exec (.envSensor 0x7081) (st 0x5320 0))).map State.sensor = some 0x7081 := by decide
theorem test_envStatus : (nextOf (exec (.envStatus 0x04) (st 0x5320 0))).map State.status = some 0x04 := by decide
theorem test_hostRead : gives .hostRead (pending []) = some (.word 0x06F7EF80) := by decide
theorem test_srdValid_all_but_bit2 : gives (.srdValid 28800 0xFB) (st 0 0) = some (.bit true) := by decide
theorem test_srdValid_negative : gives (.srdValid 0xFFFF 0x00) (st 0 0) = some (.bit false) := by decide
theorem test_srdFrac : gives (.srdFrac 31) (st 0 0) = some (.fraction 31) := by decide
theorem test_srdUnbias : gives (.srdUnbias 31) (st 0 0) = some (.tenths (-450)) := by decide
theorem test_srdRound_tie_negative : gives (.srdRound (-5) 16) (st 0 0) = some (.tenths (-4)) := by decide
theorem test_srdRound_below_half : gives (.srdRound 0 15) (st 0 0) = some (.tenths 0) := by decide
theorem test_srdCelsius : gives (.srdCelsius 28799) (st 0 0) = some (.tenths 450) := by decide
theorem test_srRead : gives (.srRead 14400 0x20) (st 0 0) = some (.reading ⟨320, .fahrenheit⟩ false) := by decide
theorem test_cfcConvert_truncates : gives (.cfcConvert (-449)) (st 0 0) = some (.tenths (-488)) := by decide
theorem test_cfcConvert_zero : gives (.cfcConvert (-178)) (st 0 0) = some (.tenths 0) := by decide
theorem test_sseSignmag : gives (.sseSignmag (-490)) (st 0 0) = some (.signMagnitude true 490) := by decide
theorem test_sseDigits : gives (.sseDigits 1130) (st 0 0) = some (.digits 0 3 1 1) := by decide
theorem test_sseSeg : gives (.sseSeg 5) (st 0 0) = some (.pattern 0x67) := by decide
theorem test_drmRange_per_mode : gives (.drmRange 451 .fahrenheit) (st 0 0) = some (.bit true) := by decide
theorem test_drmRange_below : gives (.drmRange (-451) .celsius) (st 0 0) = some (.bit false) := by decide
theorem test_drmFields : gives (.drmFields 0 1 1 2 3 4) (st 0 0) = some (.fields 1 2 3 4) := by decide
theorem test_drmFields_blank : gives (.drmFields 0 0 1 2 3 4) (st 0 0) = some (.fields 1 2 0 0) := by decide
theorem test_drmMinus_tens : gives (.drmMinus true 0 0) (st 0 0) = some (.minus 4 0) := by decide
theorem test_drmMinus_hundreds : gives (.drmMinus true 1 0) (st 0 0) = some (.minus 0 4) := by decide
theorem test_drmModebits : gives (.drmModebits .fahrenheit) (st 0 0) = some (.modeBits false true) := by decide
theorem test_drmAssemble :
    gives (.drmAssemble 0x67 0x48 0x3D 0 0 0 true false) (st 0 0) = some (.word 0x100F6467) := by decide
theorem test_drmErr : gives .drmErr (st 0 0) = some (.word 116912000) := by decide
theorem test_deEncode : gives (.deEncode (-55) .celsius) (st 0 0) = some (.encoded 0x100133E7 false) := by decide

/-! The step. -/

theorem test_step_idle : nextOf (step (pending [])) = some (pending []) := by decide
theorem test_step_reset_wins_over_tick :
    (nextOf (step (pending [.edge true true, .line ⟨.tick, []⟩]))).map (fun t => (t.display, t.stimuli))
      = some (0x00000000, [.line ⟨.tick, []⟩]) := by decide
theorem test_step_tick : (nextOf (step (pending [.line ⟨.tick, []⟩]))).map State.display = some 0x10003DFB := by decide

/-! Witnesses: the hypotheses of the statements that have some can be met together, each clause at a boundary. -/

theorem test_witness_DecodeOfEncode : WellFormed (.cfcConvert (-32768)) ∧ WellFormed (.srdRound 32767 31) := by decide
theorem test_witness_EncodeOfDecode : decode ⟨.sseDigits, [0xFF, 0xFF]⟩ = .ok (.sseDigits 65535) := by rfl
theorem test_witness_DigitIndexAboveNine :
    ∃ (s : State) (rest : List Stimulus), 10 ≤ (15#8).toNat ∧ (15#8).toNat ≤ 15 ∧ s.stimuli = .line ⟨.sseSeg, [15]⟩ :: rest :=
  ⟨pending [.line ⟨.sseSeg, [15]⟩], [], by decide, by decide, rfl⟩
theorem test_witness_sensor_in_range : 0 ≤ (28800#16).toInt ∧ (28800#16).toInt ≤ 28800 ∧ 0 ≤ (0#16).toInt := by decide
theorem test_witness_sensor_out_of_range : (0x8000#16).toInt < 0 ∧ (28801#16).toInt > 28800 := by decide
theorem test_witness_status_bits :
    (0x04#8).getLsbD 2 = true ∧ (0xDB#8).getLsbD 2 = false ∧ (0xDB#8).getLsbD 5 = false ∧ (0xFB#8).getLsbD 5 = true
      ∧ (0xFB#8).getLsbD 2 = false := by decide
theorem test_witness_SensorValuesOfEach :
    exec (.srdCelsius 28784) (st 0 0) = .next { st 0 0 with delivered := .tenths 450 } := by rfl
theorem test_witness_Conversion : (-450 : Int) ≤ -450 ∧ (-450 : Int) ≤ 450 ∧ (0 : Int) ≤ 450 ∧ (-1 : Int) < 0 := by decide
theorem test_witness_StrictlyIncreasing :
    exec (.cfcConvert (-450)) (st 0 0) = .next { st 0 0 with delivered := .tenths (-490) } ∧
      exec (.cfcConvert 450) (st 0 0) = .next { st 0 0 with delivered := .tenths 1130 } ∧ (-450 : Int) < 450 := by
  exact ⟨rfl, rfl, by decide⟩
theorem test_witness_SignAndMagnitude :
    -490 ≤ (BitVec.ofInt 16 (-490)).toInt ∧ (BitVec.ofInt 16 (-490)).toInt ≤ 1130 ∧ (1130#16).toInt ≤ 1130 := by decide
theorem test_witness_Digits : 9999 < 10000 := by decide
theorem test_witness_DigitBounds :
    exec (.drmRange 1130 .fahrenheit) (st 0 0) = .next { st 0 0 with delivered := .bit true } ∧
      exec (.drmRange (-450) .celsius) (st 0 0) = .next { st 0 0 with delivered := .bit true } := by
  exact ⟨rfl, rfl⟩
theorem test_witness_EncodeVariants_Celsius :
    -450 ≤ (BitVec.ofInt 16 (-450)).toInt ∧ (450#16).toInt ≤ 450 ∧ (BitVec.ofInt 16 (-451)).toInt < -450 ∧ 450 < (451#16).toInt := by
  decide
theorem test_witness_EncodeVariants_Fahrenheit :
    -490 ≤ (BitVec.ofInt 16 (-490)).toInt ∧ (1130#16).toInt ≤ 1130 ∧ (BitVec.ofInt 16 (-491)).toInt < -490
      ∧ 1130 < (1131#16).toInt := by decide
theorem test_witness_ModeBits_error :
    exec (.deEncode 5 .error) (st 0 0) = .next { st 0 0 with delivered := .encoded 0x06F7EF80 true } := by rfl
theorem test_witness_Injective :
    exec (.deEncode 1130 .fahrenheit) (st 0 0) = .next { st 0 0 with delivered := .encoded 0x291236FB false } := by rfl
theorem test_witness_TableOfCycle_faulted :
    exec .ucRun (st 0x3840 0x04) = .next ⟨0x3840, 0x04, 0x06F7EF80, .status ⟨true, true, true⟩, []⟩ := by rfl
theorem test_witness_TableOfCycle_celsius :
    exec .ucRun (st 28800 0xDB) = .next ⟨28800, 0xDB, 0x1013B3FB, .status ⟨false, false, false⟩, []⟩ := by rfl
theorem test_witness_TableOfCycle_fahrenheit :
    exec .ucRun (st 0 0xFB) = .next ⟨0, 0xFB, 0x2093B7FB, .status ⟨false, false, false⟩, []⟩ := by rfl
theorem test_witness_Memoryless :
    (st 0x3840 0).sensor = (pending []).sensor ∧ (st 0x3840 0).status = (pending []).status ∧
      (st 0x3840 0).display ≠ (pending []).display := by decide
theorem test_witness_IgnoredBits :
    (0xDB#8) &&& 0x24 = (st 0 0x00).status &&& 0x24 ∧ (0x24#8).getLsbD 2 = true ∧ (st 0 0x04).status.getLsbD 2 = true := by decide
theorem test_witness_IgnoredBits_sensor :
    (st 0xFFFF 0x20).sensor.toInt < 0 ∧ (st 28801 0x00).sensor.toInt > 28800
      ∧ (0x20#8) &&& 0x24 ≠ (st 28801 0x00).status &&& 0x24 := by decide
theorem test_witness_LastWrite :
    exec (.envSensor 1) (st 0 0) = .next (st 1 0) ∧ exec (.envStatus 2) (st 0 0) = .next (st 0 2) := by exact ⟨rfl, rfl⟩
theorem test_witness_PureOperations :
    Instr.drmErr ≠ .ucRun ∧ Instr.drmErr ≠ .reset ∧ (∀ v, Instr.drmErr ≠ .envSensor v) ∧ (∀ v, Instr.drmErr ≠ .envStatus v) := by
  exact ⟨by decide, by decide, fun _ h => Instr.noConfusion h, fun _ h => Instr.noConfusion h⟩
theorem test_witness_OneWriter :
    exec .reset (st 0 0) = .next { st 0 0 with display := 0 } ∧ ({ st 0 0 with display := 0 } : State).display ≠ (st 0 0).display := by
  exact ⟨rfl, by decide⟩
theorem test_witness_OneWriter_inputs :
    exec (.envSensor 7) (st 0 0) = .next (st 7 0) ∧ (st 7 0).sensor ≠ (st 0 0).sensor ∧
      exec (.envStatus 7) (st 0 0) = .next (st 0 7) ∧ (st 0 7).status ≠ (st 0 0).status := by
  exact ⟨rfl, by decide, rfl, by decide⟩
theorem test_witness_NotHostRead : Instr.ucRun ≠ .hostRead := by decide
theorem test_witness_StepRuns :
    (pending [.line ⟨.tick, []⟩]).stimuli = [.line ⟨.tick, []⟩] ∧ decode ⟨.tick, []⟩ = .ok .ucRun := by exact ⟨rfl, rfl⟩
theorem test_witness_ClockEdge :
    (pending [.edge true true]).stimuli = [.edge true true] ∧ (pending [.edge false true]).stimuli = [.edge false true] ∧
      (pending [.edge false false]).stimuli = [.edge false false] := by exact ⟨rfl, rfl, rfl⟩
theorem test_witness_DisplayChanges :
    step (pending [.edge true false]) = .next { pending [] with display := 0 } ∧
      ({ pending [] with display := 0 } : State).display ≠ (pending [.edge true false]).display := by exact ⟨rfl, by decide⟩
theorem test_witness_StepKeeps : Inv (pending []) ∧ step (pending []) = .next (pending []) := by exact ⟨rfl, rfl⟩
theorem test_witness_Degraded :
    exec .ucRun (st 0x3840 0x04) = .next ⟨0x3840, 0x04, 0x06F7EF80, .status ⟨true, true, true⟩, []⟩ ∧
      (⟨0x3840, 0x04, 0x06F7EF80, .status ⟨true, true, true⟩, []⟩ : State).delivered = .status ⟨true, true, true⟩ := by
  exact ⟨rfl, rfl⟩

end Sys2Proof.Tests
end

