-- ==== Sys2Proof/Proofs/Scope.lean ====
section
/-! The scope of the block (`00_scope.md`): an update cycle as a function of its snapshot. -/

namespace Sys2Proof.Machine

/-- The state after one update cycle (R136). -/
def State.afterCycle (s : State) : State :=
  (s.writeDisplay (cycleResult s.sensor s.status).1).deliver (.status (cycleResult s.sensor s.status).2)

theorem exec_ucRun_eq_next_afterCycle (s : State) : exec .ucRun s = .next s.afterCycle := exec_ucRun s

@[simp] theorem State.afterCycle_sensor (s : State) : s.afterCycle.sensor = s.sensor := rfl

@[simp] theorem State.afterCycle_status (s : State) : s.afterCycle.status = s.status := rfl

@[simp] theorem State.afterCycle_stimuli (s : State) : s.afterCycle.stimuli = s.stimuli := rfl

@[simp] theorem State.afterCycle_display (s : State) : s.afterCycle.display = (cycleResult s.sensor s.status).1 := rfl

@[simp] theorem State.afterCycle_delivered (s : State) :
    s.afterCycle.delivered = .status (cycleResult s.sensor s.status).2 := rfl

/-- The cycle samples two registers that it leaves unchanged, so a second cycle repeats the first. -/
theorem State.afterCycle_afterCycle (s : State) : s.afterCycle.afterCycle = s.afterCycle := by
  apply State.ext_fields <;> simp

/-- Settles O35: the cycle's result is `cycleResult` of the two inputs, and a cycle keeps both inputs. -/
theorem cycleIsMemoryless : Obligations.CycleIsMemoryless := by
  unfold Obligations.CycleIsMemoryless
  intro s s' hsensor hstatus
  have hdisplay : s.afterCycle.display = s'.afterCycle.display := by simp [hsensor, hstatus]
  have hdelivered : s.afterCycle.delivered = s'.afterCycle.delivered := by simp [hsensor, hstatus]
  exact ⟨s.afterCycle, s'.afterCycle, s.afterCycle.afterCycle, exec_ucRun_eq_next_afterCycle s,
    exec_ucRun_eq_next_afterCycle s', hdisplay, hdelivered, exec_ucRun_eq_next_afterCycle s.afterCycle,
    s.afterCycle_afterCycle⟩

end Sys2Proof.Machine
end

/-! The sensor_register_decoder (`40_sensor_register_decoder.md`): the sub-operations SRD.VALID, SRD.FRAC, SRD.UNBIAS, SRD.ROUND and
the contract SR.READ. -/

namespace Sys2Proof.Machine

/-! What each operation delivers when it runs on its own; each leaves every register as it was. -/

theorem exec_srdValid (v : SensorWord) (st : StatusWord) (s : State) :
    exec (.srdValid v st) s = .next (s.deliver (.bit (srdValid v st))) := rfl

theorem exec_srdFrac (v : SensorWord) (s : State) :
    exec (.srdFrac v) s = .next (s.deliver (.fraction (srdFrac v))) := rfl

theorem exec_srdUnbias (v : SensorWord) (s : State) :
    exec (.srdUnbias v) s = .next (s.deliver (.tenths (srdUnbias v))) := rfl

theorem exec_srdRound (base : Int) (frac : BitVec 5) (s : State) :
    exec (.srdRound base frac) s = .next (s.deliver (.tenths (srdRound base frac))) := rfl

theorem exec_srdCelsius (v : SensorWord) (s : State) :
    exec (.srdCelsius v) s = .next (s.deliver (.tenths (srdCelsius v))) := rfl

theorem exec_cfcConvert (c : Int) (s : State) :
    exec (.cfcConvert c) s = .next (s.deliver (.tenths (cfcConvert c))) := rfl

theorem exec_srRead (v : SensorWord) (st : StatusWord) (s : State) :
    exec (.srRead v st) s = .next (s.deliver (.reading (srRead v st).1 (srRead v st).2)) := rfl

/-! The validity check -/

/-- The three causes of a fault (R71). -/
theorem srdValid_eq_false_iff (v : SensorWord) (st : StatusWord) :
    srdValid v st = false ↔ v.toInt < 0 ∨ v.toInt > 28800 ∨ st.getLsbD 2 = true := by
  rw [← Bool.not_eq_true, srdValid_iff, not_and_or, not_and_or, not_le, not_le, Bool.not_eq_false, or_assoc]

/-- The validity bit as the negation of its three causes (R71). -/
theorem srdValid_eq_not_or (v : SensorWord) (st : StatusWord) :
    srdValid v st = !(decide (v.toInt < 0) || decide (v.toInt > 28800) || st.getLsbD 2) := by
  rw [Bool.eq_iff_iff, srdValid_iff]
  simp

/-- Settles O6: the check fails on exactly three causes. -/
theorem validityCheckBit : Obligations.ValidityCheckBit := by
  unfold Obligations.ValidityCheckBit
  intro v st s
  rw [exec_srdValid, srdValid_eq_not_or]
  rfl

/-! The fields of a valid sensor value -/

/-- The fraction field of a valid sensor value is its remainder by 32 (R72). -/
theorem fracField_eq_emod_of_inRange {v : SensorWord} (h : 0 ≤ v.toInt ∧ v.toInt ≤ 28800) :
    ((fracField v).toNat : Int) = v.toInt % 32 := by
  obtain ⟨hnat, -⟩ := toNat_of_inRange h
  rw [fracField_toNat, hnat]
  exact Int.natCast_emod v.toNat 32

/-- The biased field of a valid sensor value is its quotient by 32: the sign bit above it is clear (R73). -/
theorem biasedField_eq_ediv_of_inRange {v : SensorWord} (h : 0 ≤ v.toInt ∧ v.toInt ≤ 28800) :
    v.toInt / 32 = ((biasedField v).toNat : Int) := by
  obtain ⟨hnat, hmax⟩ := toNat_of_inRange h
  rw [biasedField_toNat, hnat]
  omega

/-- Settles O7: on a valid value SRD.FRAC is the fraction field. -/
theorem fractionIsTheLowFiveBits : Obligations.FractionIsTheLowFiveBits := by
  unfold Obligations.FractionIsTheLowFiveBits
  intro v s hmin hmax
  refine ⟨?_, fracField_eq_emod_of_inRange ⟨hmin, hmax⟩⟩
  rw [exec_srdFrac, srdFrac_of_inRange ⟨hmin, hmax⟩]
  rfl

/-- Settles O8: on a valid value SRD.UNBIAS is the quotient by 32 less 450, and the quotient is the biased field. -/
theorem unbiasIsShiftLessBias : Obligations.UnbiasIsShiftLessBias := by
  unfold Obligations.UnbiasIsShiftLessBias
  intro v s hmin hmax
  refine ⟨?_, biasedField_eq_ediv_of_inRange ⟨hmin, hmax⟩, ?_, ?_⟩
  · rw [exec_srdUnbias, srdUnbias_of_inRange ⟨hmin, hmax⟩]
    rfl
  · omega
  · omega

/-- Settles O9: the comparison with 16 is SRD.ROUND's own. -/
theorem roundHalfUpOnTheFraction : Obligations.RoundHalfUpOnTheFraction := by
  unfold Obligations.RoundHalfUpOnTheFraction
  intro base frac s
  exact exec_srdRound base frac s

/-! The SensorReader contract -/

/-- A faulted reading shows nothing of the operands (R78). -/
theorem srRead_of_fault {v : SensorWord} {st : StatusWord} (h : srdValid v st = false) : srRead v st = (⟨0, .error⟩, true) := by
  simp [srRead, h]

/-- The number of tenths a valid reading carries: the decode, converted when the Fahrenheit bit asks for it (R77). -/
def readTenths (v : SensorWord) (st : StatusWord) : Int :=
  if st.getLsbD 5 then cfcConvert (srdCelsius v) else srdCelsius v

/-- Both scales keep within the Fahrenheit range, which the bus holds (R76, R88, R89). -/
theorem readTenths_range {v : SensorWord} (h : 0 ≤ v.toInt ∧ v.toInt ≤ 28800) (st : StatusWord) :
    -490 ≤ readTenths v st ∧ readTenths v st ≤ 1130 := by
  have hc := srdCelsius_range h
  unfold readTenths
  split
  · exact cfcConvert_range hc
  · omega

/-- A valid reading carries `readTenths` and the mode that the Fahrenheit bit selects (R77, R78). -/
theorem srRead_of_valid {v : SensorWord} {st : StatusWord} (h : srdValid v st = true) :
    srRead v st = (⟨tenthsWord (readTenths v st), if st.getLsbD 5 then .fahrenheit else .celsius⟩, false) := by
  rcases srRead_cases v st with ⟨hv, -⟩ | ⟨-, h5, hread⟩ | ⟨-, h5, hread⟩
  · simp [h] at hv
  · simp only [hread, readTenths, h5, Bool.false_eq_true, if_false]
  · simp only [hread, readTenths, h5, if_true]

/-- Settles O12: one case per result of the validity check; the bus holds both scales unchanged. -/
theorem sensorReaderContract : Obligations.SensorReaderContract := by
  unfold Obligations.SensorReaderContract
  intro v st s
  constructor
  · intro hfault
    rw [exec_srRead, srRead_of_fault ((srdValid_eq_false_iff v st).2 hfault)]
    rfl
  · rintro ⟨hmin, hmax, hclear⟩
    have hvalid : srdValid v st = true := (srdValid_iff v st).2 ⟨⟨hmin, hmax⟩, hclear⟩
    refine ⟨srdCelsius v, cfcConvert (srdCelsius v), exec_srdCelsius v s, exec_cfcConvert _ s, tenthsWord (readTenths v st),
      ?_, tenthsWord_toInt (readTenths_range ⟨hmin, hmax⟩ st)⟩
    rw [exec_srRead, srRead_of_valid hvalid]
    rfl

end Sys2Proof.Machine

/-! The seven_segment_digit_encoder (`42_seven_segment_digit_encoder.md`): the sub-operation SSE.SIGNMAG. -/

namespace Sys2Proof.Machine

/-- What SSE.SIGNMAG delivers when it runs on its own; it leaves every register as it was (R97). -/
theorem exec_sseSignmag (t : TenthsWord) (s : State) :
    exec (.sseSignmag t) s = .next (s.deliver (.signMagnitude (sseSignmag t).1 (sseSignmag t).2)) := rfl

/-- The rule's magnitude, its two signs apart, is the absolute value of the model (R97). -/
theorem natAbs_eq_toNat_ite (x : Int) : x.natAbs = (if 0 ≤ x then x else -x).toNat := by
  split <;> omega

/-- Settles O16: in the operand range the sign bit is the comparison with zero, and the magnitude the absolute value. -/
theorem signAndMagnitude : Obligations.SignAndMagnitude := by
  unfold Obligations.SignAndMagnitude
  intro t s hmin hmax
  rw [exec_sseSignmag, sseSignmag_of_inRange ⟨hmin, hmax⟩, natAbs_eq_toNat_ite]
  rfl

end Sys2Proof.Machine

/-! The display_register_multiplexer (`43_display_register_multiplexer.md`): its sub-operations and the contract DE.ENCODE. -/

namespace Sys2Proof.Machine

/-! What each operation delivers when it runs on its own; each leaves every register as it was. -/

theorem exec_sseDigits (mag : Nat) (s : State) :
    exec (.sseDigits mag) s =
      .next (s.deliver
        (.digits (sseDigits mag).1 (sseDigits mag).2.1 (sseDigits mag).2.2.1 (sseDigits mag).2.2.2)) := rfl

theorem exec_sseSeg (d : Digit) (s : State) : exec (.sseSeg d) s = .next (s.deliver (.pattern (sseSeg d))) := rfl

theorem exec_drmRange (t : TenthsWord) (m : Mode) (s : State) :
    exec (.drmRange t m) s = .next (s.deliver (.bit (drmRange ⟨t, m⟩))) := rfl

theorem exec_drmFields (d2 d3 : Digit) (p0 p1 p2 p3 : Pattern) (s : State) :
    exec (.drmFields d2 d3 p0 p1 p2 p3) s =
      .next (s.deliver
        (.fields p0 p1 (if d2 ≠ 0 ∨ d3 ≠ 0 then p2 else blankPattern) (if d3 ≠ 0 then p3 else blankPattern))) := rfl

theorem exec_drmMinus (negative : Bool) (d2 d3 : Digit) (s : State) :
    exec (.drmMinus negative d2 d3) s =
      .next (s.deliver (.minus (drmMinus negative d2 d3).1 (drmMinus negative d2 d3).2)) := rfl

theorem exec_drmModebits (m : Mode) (s : State) :
    exec (.drmModebits m) s = .next (s.deliver (.modeBits (drmModebits m).1 (drmModebits m).2)) := rfl

theorem exec_drmAssemble (f0 f1 f2 f3 m2 m3 : Pattern) (cm fm : Bool) (s : State) :
    exec (.drmAssemble f0 f1 f2 f3 m2 m3 cm fm) s =
      .next (s.deliver (.word (drmAssemble f0 f1 f2 f3 m2 m3 cm fm))) := rfl

theorem exec_drmErr (s : State) : exec .drmErr s = .next (s.deliver (.word errWord)) := rfl

theorem exec_deEncode (t : TenthsWord) (m : Mode) (s : State) :
    exec (.deEncode t m) s = .next (s.deliver (.encoded (deEncode ⟨t, m⟩).1 (deEncode ⟨t, m⟩).2)) := rfl

/-! The range check and the leading zeros -/

/-- The range bit as the rule's disjunction over the two displayed modes (R111). -/
theorem drmRange_eq_or (t : TenthsWord) (m : Mode) :
    drmRange ⟨t, m⟩ =
      ((decide (m = .celsius) && decide (-450 ≤ t.toInt) && decide (t.toInt ≤ 450)) ||
        (decide (m = .fahrenheit) && decide (-490 ≤ t.toInt) && decide (t.toInt ≤ 1130))) := by
  rw [Bool.eq_iff_iff, drmRange_iff]
  simp [and_assoc]

/-- Settles O20: the check is the rule's disjunction over the two displayed modes. -/
theorem rangeCheckBit : Obligations.RangeCheckBit := by
  unfold Obligations.RangeCheckBit
  intro t m s
  rw [exec_drmRange, drmRange_eq_or]
  rfl

/-- Settles O21: the two conditions are DRM.FIELDS's own, and the empty field is the pattern of no segments. -/
theorem leadingZeroSuppression : Obligations.LeadingZeroSuppression := by
  unfold Obligations.LeadingZeroSuppression
  intro d2 d3 p0 p1 p2 p3 s
  exact exec_drmFields d2 d3 p0 p1 p2 p3 s

/-! The assembled word -/

/-- Settles O25: the placed fields do not overlap, so their union is the concatenation. -/
theorem assembleIsTheConcatenation : Obligations.AssembleIsTheConcatenation := by
  unfold Obligations.AssembleIsTheConcatenation
  intro f0 f1 f2 f3 m2 m3 cm fm s
  rw [exec_drmAssemble, drmAssemble_eq_append]
  rfl

@[simp] theorem celsiusBit_drmAssemble (f0 f1 f2 f3 m2 m3 : Pattern) (cm fm : Bool) :
    celsiusBit (drmAssemble f0 f1 f2 f3 m2 m3 cm fm) = cm := by
  simp only [celsiusBit, drmAssemble_eq_append, BitVec.getLsbD_append]
  simp

@[simp] theorem fahrenheitBit_drmAssemble (f0 f1 f2 f3 m2 m3 : Pattern) (cm fm : Bool) :
    fahrenheitBit (drmAssemble f0 f1 f2 f3 m2 m3 cm fm) = fm := by
  simp only [fahrenheitBit, drmAssemble_eq_append, BitVec.getLsbD_append]
  simp

@[simp] theorem celsiusBit_digitWord (r : Reading) : celsiusBit (digitWord r) = (drmModebits r.mode).1 :=
  celsiusBit_drmAssemble ..

@[simp] theorem fahrenheitBit_digitWord (r : Reading) : fahrenheitBit (digitWord r) = (drmModebits r.mode).2 :=
  fahrenheitBit_drmAssemble ..

@[simp] theorem celsiusBit_errWord : celsiusBit errWord = false := by decide

@[simp] theorem fahrenheitBit_errWord : fahrenheitBit errWord = false := by decide

/-- Of the two mode bits exactly one is set, whatever the mode (R115). -/
theorem drmModebits_snd (m : Mode) : (drmModebits m).2 = !(drmModebits m).1 := by
  cases m <;> rfl

/-- An encoded word has one mode bit on a digit word and none on the ERR word (R115, R118). -/
theorem deEncode_modeBits (r : Reading) :
    (celsiusBit (deEncode r).1 || fahrenheitBit (deEncode r).1) = !(deEncode r).2 ∧
      (celsiusBit (deEncode r).1 && fahrenheitBit (deEncode r).1) = false := by
  rcases deEncode_cases r with ⟨-, herr⟩ | ⟨-, hdigits⟩
  · simp [herr]
  · simp [hdigits, drmModebits_snd]

/-- What DE.ENCODE is seen to deliver is the model's word and status. -/
theorem deEncode_of_exec {t : TenthsWord} {m : Mode} {s : State} {w : DisplayWord} {outOfRange : Bool}
    (h : exec (.deEncode t m) s = .next { s with delivered := .encoded w outOfRange }) :
    deEncode ⟨t, m⟩ = (w, outOfRange) := by
  rw [exec_deEncode, Host.Outcome.next.injEq] at h
  have hdelivered := congrArg State.delivered h
  rw [State.deliver_delivered, Output.encoded.injEq] at hdelivered
  exact Prod.ext hdelivered.1 hdelivered.2

/-- Settles O23: the two displayed modes by the table of DRM.MODEBITS, and the encoded word by its two sources. -/
theorem modeBitsOfDisplayedModes : Obligations.ModeBitsOfDisplayedModes := by
  unfold Obligations.ModeBitsOfDisplayedModes
  intro s
  refine ⟨exec_drmModebits .celsius s, exec_drmModebits .fahrenheit s, ?_⟩
  intro t m w outOfRange hexec
  simpa only [deEncode_of_exec hexec] using deEncode_modeBits ⟨t, m⟩

/-! The DisplayEncoder contract -/

/-- Settles O27: the range check selects the ERR word or the digit word, and the digit word is assembled from what the
sub-operations deliver. -/
theorem displayEncoderContract : Obligations.DisplayEncoderContract := by
  unfold Obligations.DisplayEncoderContract
  intro t m s
  have hbit := exec_drmRange t m s
  have hencoded := exec_deEncode t m s
  rcases deEncode_cases ⟨t, m⟩ with ⟨hrange, hencode⟩ | ⟨hrange, hencode⟩
  · left
    rw [hrange] at hbit
    rw [hencode] at hencoded
    exact ⟨hbit, errWord, exec_drmErr s, hencoded⟩
  · right
    rw [hrange] at hbit
    rw [hencode, digitWord_eq rfl rfl] at hencoded
    exact ⟨hbit, _, _, _, _, _, _, _, _, _, _, _, _, _, _, _, _, _, _, _,
      exec_sseSignmag t s, exec_sseDigits _ s, exec_sseSeg _ s, exec_sseSeg _ s, exec_sseSeg _ s, exec_sseSeg _ s,
      exec_drmFields _ _ _ _ _ _ s, exec_drmMinus _ _ _ s, exec_drmModebits m s,
      exec_drmAssemble _ _ _ _ _ _ _ _ s, hencoded⟩

end Sys2Proof.Machine

/-! The update cycle (`44_update_cycle.md`): the composition UC.RUN. -/

namespace Sys2Proof.Machine

/-- The cycle's word is DE.ENCODE's of the reading that SR.READ takes from the snapshot, whatever either reports (R136). -/
theorem cycleResult_fst (v : SensorWord) (st : StatusWord) : (cycleResult v st).1 = (deEncode (srRead v st).1).1 := rfl

/-- The cycle's statuses are those of its two stages, combined (R136). -/
theorem cycleResult_snd (v : SensorWord) (st : StatusWord) :
    (cycleResult v st).2 = cycleFlags (srRead v st).2 (deEncode (srRead v st).1).2 := rfl

/-- The combined status is `degraded` unless both stages are Ok (R136). -/
theorem cycleFlags_eq_ite (sensorFault outOfRange : Bool) :
    cycleFlags sensorFault outOfRange =
      ⟨sensorFault, outOfRange, if sensorFault = false ∧ outOfRange = false then false else true⟩ := by
  cases sensorFault <;> cases outOfRange <;> rfl

/-- Settles O31: both stages run on their own deliver the two components of `cycleResult`, and the cycle writes the word
with no case on either status. -/
theorem updateCycleSteps : Obligations.UpdateCycleSteps := by
  unfold Obligations.UpdateCycleSteps
  intro s
  refine ⟨_, _, _, _, exec_srRead s.sensor s.status s, exec_deEncode _ _ s, ?_⟩
  rw [exec_ucRun, cycleResult_fst, cycleResult_snd, cycleFlags_eq_ite]
  rfl

end Sys2Proof.Machine

/-! Encoding and selection (`30_encoding.md`): the decoder and the encoder are inverse to each other. -/

namespace Sys2Proof

/-! The operand reads as equivalences: the byte of an operand is the only one that is read as it. -/

@[simp] theorem ok_bind {α β : Type} (a : α) (f : α → Except DecodeError β) : (Except.ok a >>= f) = f a := rfl

theorem bind_eq_ok_iff {α β : Type} {x : Except DecodeError α} {f : α → Except DecodeError β} {b : β} :
    (x >>= f) = .ok b ↔ ∃ a, x = .ok a ∧ f a = .ok b :=
  ⟨bind_eq_ok, by rintro ⟨a, rfl, h⟩; exact h⟩

theorem operandOf_eq_ok_iff {w : Nat} (hw : w ≤ 8) {b : Byte} {v : BitVec w} : operandOf w b = .ok v ↔ byteOf v = b :=
  ⟨operandOf_ok, by rintro rfl; exact operandOf_byteOf w v hw⟩

theorem digitOf_eq_ok_iff {b : Byte} {d : Digit} : digitOf b = .ok d ↔ digitByte d = b :=
  ⟨digitOf_ok, by rintro rfl; exact digitOf_digitByte d⟩

theorem flagOf_eq_ok_iff {b : Byte} {x : Bool} : flagOf b = .ok x ↔ flagByte x = b :=
  ⟨flagOf_ok, by rintro rfl; exact flagOf_flagByte x⟩

theorem modeOf_eq_ok_iff {b : Byte} {m : Mode} : modeOf b = .ok m ↔ byteOf (modeCode m) = b :=
  ⟨modeOf_ok, by rintro rfl; exact modeOf_byteOf m⟩

/-! What the decoder reads from a line of each kind of operand -/

theorem decode_stat (st : StatusWord) : decode ⟨.stat, [st]⟩ = .ok (decodeStat st) := rfl

theorem decode_statWord (hi : BitVec 2) (fahr : BitVec 1) (mid : BitVec 2) (fault : BitVec 1) (lo : BitVec 2) :
    decode ⟨.stat, [statWord hi fahr mid fault lo]⟩ =
      .ok (if fault = 1 then .readFault hi fahr mid lo else if fahr = 0 then .readC hi mid lo else .readF hi mid lo) := by
  rw [decode_stat, decodeStat_statWord]

theorem decode_trec (t : TenthsWord) (m : Mode) : decode (trecLine .trec t m) = .ok (decodeTrec t m) := by
  simp [decode, decodeBits, trecLine, bytes16]

theorem decode_digit (d : Digit) : decode (digitLine .digit d) = .ok (decodeDigit d) := by
  simp [decode, decodeBits, digitLine]

theorem toNat_ofNat_of_fits {n : Nat} (h : fitsUnsigned16 n = true) : (BitVec.ofNat 16 n).toNat = n := by
  simp only [fitsUnsigned16, decide_eq_true_eq] at h
  exact Nat.mod_eq_of_lt h

/-- Settles O1: one case per operation; the operands of each kind are read back from their bytes. -/
theorem decodeOfEncodeIsTheOperation : Obligations.DecodeOfEncodeIsTheOperation := by
  unfold Obligations.DecodeOfEncodeIsTheOperation
  intro i hwf
  cases i
  case readFault hi fahr mid lo => exact decode_statWord hi fahr mid 1 lo
  case readC hi mid lo | readF hi mid lo => exact decode_statWord hi _ mid 0 lo
  case encC t | encF t | encErr t | encRsvd t => exact decode_trec t _
  case seg0 | seg1 | seg2 | seg3 | seg4 | seg5 | seg6 | seg7 | seg8 | seg9 => exact decode_digit _
  case srdRound base frac => simp [encode, decode, decodeBits, bytes16, toInt_ofInt_of_fits hwf]
  case cfcConvert c => simp [encode, decode, decodeBits, bytes16, toInt_ofInt_of_fits hwf]
  case sseDigits mag => simp [encode, decode, decodeBits, bytes16, toNat_ofNat_of_fits hwf]
  all_goals simp [encode, decode, decodeBits, bytes16, trecLine, digitLine]

/-! Which operations a line can carry, and the line that carries them -/

theorem wellFormed_decodeStat (st : StatusWord) : WellFormed (decodeStat st) := by
  revert st; decide

theorem wellFormed_decodeTrec (t : TenthsWord) (m : Mode) : WellFormed (decodeTrec t m) := by
  cases m <;> rfl

theorem encode_decodeTrec (t : TenthsWord) (m : Mode) : encode (decodeTrec t m) = trecLine .trec t m := by
  cases m <;> rfl

theorem wellFormed_decodeDigit (d : Digit) : WellFormed (decodeDigit d) := by
  revert d; decide

theorem encode_decodeDigit (d : Digit) : encode (decodeDigit d) = digitLine .digit d := by
  revert d; decide

/-- The line of a reading made of three bytes has these bytes. -/
@[simp] theorem trecLine_word16 (key : Key) (b0 b1 : Byte) (m : Mode) :
    trecLine key (word16 b0 b1) m = ⟨key, [b0, b1, byteOf (modeCode m)]⟩ := by
  simp [trecLine]

/-- Settles O2: one case per key; a line of the key's one length is rebuilt from the operands read from it. -/
theorem encodeOfDecodeIsTheLine : Obligations.EncodeOfDecodeIsTheLine := by
  unfold Obligations.EncodeOfDecodeIsTheLine
  rintro ⟨key, bits⟩ i h
  cases key <;> simp only [decode, decodeBits] at h <;> split at h
  all_goals simp only [bind_eq_ok_iff, operandOf_eq_ok_iff, digitOf_eq_ok_iff, flagOf_eq_ok_iff, modeOf_eq_ok_iff,
    pure, Except.pure, Except.ok.injEq, reduceCtorEq, Nat.reduceLeDiff] at h
  -- the three formats that select the operation: STAT, TREC, DIGIT
  · subst h
    exact ⟨wellFormed_decodeStat _, encode_decodeStat _⟩
  · obtain ⟨m, rfl, rfl⟩ := h
    exact ⟨wellFormed_decodeTrec _ m, (encode_decodeTrec _ m).trans (trecLine_word16 ..)⟩
  · obtain ⟨d, rfl, rfl⟩ := h
    exact ⟨wellFormed_decodeDigit d, encode_decodeDigit d⟩
  -- the keys whose operands take every byte
  any_goals
    subst h
    simp [WellFormed, Instr.wellFormed, encode]
  -- the keys with a byte that is checked, in the order of `Key`
  · obtain ⟨frac, rfl, rfl⟩ := h
    simp [WellFormed, Instr.wellFormed, encode]
  · obtain ⟨d, rfl, rfl⟩ := h
    exact ⟨rfl, rfl⟩
  · obtain ⟨m, rfl, rfl⟩ := h
    exact ⟨rfl, trecLine_word16 ..⟩
  · obtain ⟨d2, rfl, d3, rfl, p0, rfl, p1, rfl, p2, rfl, p3, rfl, rfl⟩ := h
    exact ⟨rfl, rfl⟩
  · obtain ⟨negative, rfl, d2, rfl, d3, rfl, rfl⟩ := h
    exact ⟨rfl, rfl⟩
  · obtain ⟨m, rfl, rfl⟩ := h
    exact ⟨rfl, rfl⟩
  · obtain ⟨f0, rfl, f1, rfl, f2, rfl, f3, rfl, m2, rfl, m3, rfl, cm, rfl, fm, rfl, rfl⟩ := h
    exact ⟨rfl, rfl⟩
  · obtain ⟨m, rfl, rfl⟩ := h
    exact ⟨rfl, trecLine_word16 ..⟩

/-- The one line of an operation that a line can select. -/
theorem eq_encode_of_decode {l : Line} {i : Instr} (h : decode l = .ok i) : l = encode i :=
  (encodeOfDecodeIsTheLine l i h).2.symm

/-! Selection by single fields -/

/-- Settles O3: the decoder evaluates on each line. -/
theorem wordsOfTheSpecDecode : Obligations.WordsOfTheSpecDecode := by
  unfold Obligations.WordsOfTheSpecDecode
  decide

/-- The masks and matches of the three variants select by the two bits they cover (R60). -/
theorem statMask_cases (st : StatusWord) :
    st.extractLsb' 2 1 = 1 ∧ st &&& 0x04#8 = 0x04#8 ∨
    st.extractLsb' 2 1 ≠ 1 ∧ st.extractLsb' 5 1 = 0 ∧ st &&& 0x24#8 = 0x00#8 ∨
    st.extractLsb' 2 1 ≠ 1 ∧ st.extractLsb' 5 1 ≠ 0 ∧ st &&& 0x24#8 = 0x20#8 := by
  revert st; decide

/-- Settles O4: the three masks stand for the tests of `decodeStat` on bits 2 and 5. -/
theorem statusWordSelectsReadVariant : Obligations.StatusWordSelectsReadVariant := by
  unfold Obligations.StatusWordSelectsReadVariant
  intro st
  rcases statMask_cases st with ⟨hfault, hmask⟩ | ⟨hfault, hfahr, hmask⟩ | ⟨hfault, hfahr, hmask⟩
  · exact .inl ⟨hmask, _, _, _, _, by rw [decode_stat, decodeStat, if_pos hfault]⟩
  · exact .inr (.inl ⟨hmask, _, _, _, by rw [decode_stat, decodeStat, if_neg hfault, if_pos hfahr]⟩)
  · exact .inr (.inr ⟨hmask, _, _, _, by rw [decode_stat, decodeStat, if_neg hfault, if_neg hfahr]⟩)

/-- An index of 10 to 15 is refused by name (U4). -/
theorem digitOf_of_index {b : Byte} (hmin : 10 ≤ b.toNat) (hmax : b.toNat ≤ 15) : digitOf b = .error .noSuchDigit := by
  rw [digitOf, dif_neg (by omega), if_pos (by omega)]

/-- A line of one digit is refused for the reason its byte is (R63). -/
theorem decode_digit_of_error {key : Key} {b : Byte} {e : DecodeError} (hkey : key = .digit ∨ key = .sseSeg)
    (h : digitOf b = .error e) : decode ⟨key, [b]⟩ = .error e := by
  rcases hkey with rfl | rfl <;> simp only [decode, decodeBits, h] <;> rfl

end Sys2Proof

/-! The conversion from a sensor value to tenths of a degree and on to digits (`40_sensor_register_decoder.md` to
`42_seven_segment_digit_encoder.md`): the facts that hold beyond a single rule. -/

namespace Sys2Proof.Machine

/-- Two deliveries in one state are the same only if what is delivered is. -/
theorem State.deliver_inj {s : State} {o o' : Output} : s.deliver o = s.deliver o' ↔ o = o' :=
  ⟨congrArg State.delivered, congrArg s.deliver⟩

/-! The decode -/

/-- The decode of a valid value is the base rounded by its fraction (R75). -/
theorem srdRound_of_inRange {v : SensorWord} (h : 0 ≤ v.toInt ∧ v.toInt ≤ 28800) :
    srdRound (v.toInt / 32 - 450) (fracField v) = srdCelsius v := by
  rw [srdCelsius, srdUnbias_of_inRange h, srdFrac_of_inRange h]

/-- Bit 4 of a sensor value says whether its fraction is at least a half. -/
theorem getLsbD_four_iff (v : SensorWord) : v.getLsbD 4 = true ↔ 16 ≤ v.toNat % 32 := by
  rw [BitVec.getLsbD, Nat.testBit_eq_decide_div_mod_eq, decide_eq_true_iff]
  omega

/-- Settles O10: the composition by definition, the first closed form by `srdCelsius_of_inRange`, the second by bit 4. -/
theorem celsiusDecodeClosedForms : Obligations.CelsiusDecodeClosedForms := by
  unfold Obligations.CelsiusDecodeClosedForms
  intro v s hmin hmax
  have h : 0 ≤ v.toInt ∧ v.toInt ≤ 28800 := ⟨hmin, hmax⟩
  refine ⟨?_, ?_, ?_⟩
  · rw [exec_srdCelsius, srdCelsius_of_inRange h]
    rfl
  · rw [exec_srdCelsius, ← srdRound_of_inRange h]
    rfl
  · have hbase := biasedField_eq_ediv_of_inRange h
    obtain ⟨hnat, -⟩ := toNat_of_inRange h
    rw [biasedField] at hbase
    simp only [getLsbD_four_iff, hnat] at hbase ⊢
    split <;> omega

/-- What SRD.CELSIUS is seen to deliver is the model's value. -/
theorem exec_srdCelsius_eq_iff (v : SensorWord) (s : State) (c : Int) :
    exec (.srdCelsius v) s = .next { s with delivered := .tenths c } ↔ srdCelsius v = c := by
  rw [exec_srdCelsius, Host.Outcome.next.injEq]
  exact State.deliver_inj.trans (iff_of_eq (Output.tenths.injEq ..))

/-- Settles O11: the closed form of the decode, solved for the sensor value. -/
theorem sensorValuesOfEachCelsiusValue : Obligations.SensorValuesOfEachCelsiusValue := by
  unfold Obligations.SensorValuesOfEachCelsiusValue
  intro c v s hmin hmax
  rw [exec_srdCelsius_eq_iff, srdCelsius_of_inRange ⟨hmin, hmax⟩]
  omega

/-! The variants of SR.READ -/

theorem exec_readFault (hi : BitVec 2) (fahr : BitVec 1) (mid lo : BitVec 2) (s : State) :
    exec (.readFault hi fahr mid lo) s = exec (.srRead s.sensor (statWord hi fahr mid 1 lo)) s := rfl

theorem exec_readC (hi mid lo : BitVec 2) (s : State) :
    exec (.readC hi mid lo) s = exec (.srRead s.sensor (statWord hi 0 mid 0 lo)) s := rfl

theorem exec_readF (hi mid lo : BitVec 2) (s : State) :
    exec (.readF hi mid lo) s = exec (.srRead s.sensor (statWord hi 1 mid 0 lo)) s := rfl

/-- The fault bit of a STATUS value made of its fields (R47). -/
theorem getLsbD_two_statWord (hi : BitVec 2) (fahr : BitVec 1) (mid : BitVec 2) (fault : BitVec 1) (lo : BitVec 2) :
    (statWord hi fahr mid fault lo).getLsbD 2 = fault.getLsbD 0 := by
  simp only [statWord, BitVec.getLsbD_append]
  simp

/-- The Fahrenheit bit of a STATUS value made of its fields (R47). -/
theorem getLsbD_five_statWord (hi : BitVec 2) (fahr : BitVec 1) (mid : BitVec 2) (fault : BitVec 1) (lo : BitVec 2) :
    (statWord hi fahr mid fault lo).getLsbD 5 = fahr.getLsbD 0 := by
  simp only [statWord, BitVec.getLsbD_append]
  simp

/-- A valid reading in Celsius carries the decode (R78). -/
theorem srRead_celsius {v : SensorWord} {st : StatusWord} (h : srdValid v st = true) (h5 : st.getLsbD 5 = false) :
    srRead v st = (⟨tenthsWord (srdCelsius v), .celsius⟩, false) := by
  rw [srRead_of_valid h, readTenths, h5]
  rfl

/-- A valid reading in Fahrenheit carries the converted decode (R78). -/
theorem srRead_fahrenheit {v : SensorWord} {st : StatusWord} (h : srdValid v st = true) (h5 : st.getLsbD 5 = true) :
    srRead v st = (⟨tenthsWord (cfcConvert (srdCelsius v)), .fahrenheit⟩, false) := by
  rw [srRead_of_valid h, readTenths, h5]
  rfl

/-- Settles O13: each variant is SR.READ on SENSOR and its own STATUS value, so the contract of SR.READ gives what it delivers. -/
theorem readVariantsDeliver : Obligations.ReadVariantsDeliver := by
  unfold Obligations.ReadVariantsDeliver
  intro hi mid lo fahr s
  simp only [exec_readFault, exec_readC, exec_readF]
  refine ⟨?_, ?_, ?_⟩
  · exact (sensorReaderContract _ _ s).1 (.inr (.inr (getLsbD_two_statWord ..)))
  · intro hrange
    have hvalid (fahr : BitVec 1) : srdValid s.sensor (statWord hi fahr mid 0 lo) = true :=
      (srdValid_iff _ _).2 ⟨hrange, getLsbD_two_statWord ..⟩
    have hc := srdCelsius_range hrange
    have hbus : (tenthsWord (srdCelsius s.sensor)).toInt = srdCelsius s.sensor := tenthsWord_toInt (by omega)
    refine ⟨tenthsWord (srdCelsius s.sensor), tenthsWord (cfcConvert (srdCelsius s.sensor)), ?_, ?_, ?_, ?_⟩
    · rw [exec_srRead, srRead_celsius (hvalid 0) (getLsbD_five_statWord ..)]
      rfl
    · rw [hbus, srdCelsius_of_inRange hrange]
    · rw [exec_srRead, srRead_fahrenheit (hvalid 1) (getLsbD_five_statWord ..)]
      rfl
    · rw [hbus, tenthsWord_toInt (cfcConvert_range hc)]
      exact exec_cfcConvert (srdCelsius s.sensor) s
  · intro hrange
    have hfault (st : StatusWord) : s.sensor.toInt < 0 ∨ s.sensor.toInt > 28800 ∨ st.getLsbD 2 = true :=
      hrange.imp_right .inl
    exact ⟨(sensorReaderContract _ _ s).1 (hfault _), (sensorReaderContract _ _ s).1 (hfault _)⟩

/-! The Celsius to Fahrenheit conversion -/

/-- Settles O14: the two signs of the truncating division apart. -/
theorem conversionTruncatesTowardZero : Obligations.ConversionTruncatesTowardZero := by
  unfold Obligations.ConversionTruncatesTowardZero
  intro c s hmin hmax
  have hconvert := cfcConvert_of_inRange ⟨hmin, hmax⟩
  refine ⟨cfcConvert c, exec_cfcConvert c s, ?_, ?_, cfcConvert_range ⟨hmin, hmax⟩⟩
  · intro hc
    rw [hconvert, if_pos hc]
  · intro hc
    rw [hconvert, if_neg (by omega)]

/-- What CFC.CONVERT is seen to deliver is the model's value. -/
theorem exec_cfcConvert_eq_iff (c f : Int) (s : State) :
    exec (.cfcConvert c) s = .next { s with delivered := .tenths f } ↔ cfcConvert c = f := by
  rw [exec_cfcConvert, Host.Outcome.next.injEq]
  exact State.deliver_inj.trans (iff_of_eq (Output.tenths.injEq ..))

/-- Times 5, the conversion is exact to 4 (R86). -/
theorem cfcConvert_error {c : Int} (h : -450 ≤ c ∧ c ≤ 450) : |5 * cfcConvert c - (9 * c + 1600)| ≤ 4 := by
  rw [cfcConvert_of_inRange h, abs_le]
  split <;> omega

/-- Settles O15: 9 is more than twice the error bound of 4, so the rounded values increase too. -/
theorem conversionIsStrictlyIncreasing : Obligations.ConversionIsStrictlyIncreasing := by
  unfold Obligations.ConversionIsStrictlyIncreasing
  intro c c' f f' s hmin hlt hmax hf hf'
  rw [exec_cfcConvert_eq_iff] at hf hf'
  subst hf hf'
  have herror := cfcConvert_error (c := c) (by omega)
  have herror' := cfcConvert_error (c := c') (by omega)
  refine ⟨?_, herror, ?_, ?_⟩
  · rw [abs_le] at herror herror'
    omega
  · rintro rfl
    decide
  · rintro rfl
    decide

/-! The digits -/

/-- Settles O17: below 10000 the digits are the remainders, and division recomposes them. -/
theorem digitsRecomposeTheMagnitude : Obligations.DigitsRecomposeTheMagnitude := by
  unfold Obligations.DigitsRecomposeTheMagnitude
  intro mag s hmag
  refine ⟨digitOfNat mag, digitOfNat (mag / 10), digitOfNat (mag / 100), digitOfNat (mag / 1000), ?_, rfl, rfl, rfl, rfl, ?_⟩
  · rw [exec_sseDigits, sseDigits_of_lt hmag]
    rfl
  · simp only [digitOfNat_val]
    omega

/-- What DRM.RANGE is seen to deliver is the model's bit. -/
theorem drmRange_of_exec {t : TenthsWord} {m : Mode} {s : State} {b : Bool}
    (h : exec (.drmRange t m) s = .next { s with delivered := .bit b }) : drmRange ⟨t, m⟩ = b := by
  rw [exec_drmRange, Host.Outcome.next.injEq] at h
  exact Output.bit.inj (State.deliver_inj.1 h)

/-- Settles O18: the range check bounds the value by its mode, and the digits follow. -/
theorem digitBoundsOfReadingsInRange : Obligations.DigitBoundsOfReadingsInRange := by
  unfold Obligations.DigitBoundsOfReadingsInRange
  intro t m s hexec
  have hrange := drmRange_of_exec hexec
  have hvalue : -490 ≤ t.toInt ∧ t.toInt ≤ 1130 := tenths_of_drmRange hrange
  have hmag : t.toInt.natAbs ≤ 1130 := by omega
  have hscale : m = .celsius ∧ -450 ≤ t.toInt ∧ t.toInt ≤ 450 ∨ m = .fahrenheit := by
    rcases (drmRange_iff _).1 hrange with hcelsius | ⟨hm, -⟩
    · exact .inl hcelsius
    · exact .inr hm
  refine ⟨decide (t.toInt < 0), t.toInt.natAbs, digitOfNat t.toInt.natAbs, digitOfNat (t.toInt.natAbs / 10),
    digitOfNat (t.toInt.natAbs / 100), digitOfNat (t.toInt.natAbs / 1000), ?_, hmag, ?_, ?_, ?_, ?_⟩
  · rw [exec_sseSignmag, sseSignmag_of_inRange hvalue]
    rfl
  · rw [exec_sseDigits, sseDigits_of_lt (by omega)]
    rfl
  all_goals simp only [digitOfNat_val, decide_eq_true_iff]
  · omega
  · rintro (hnegative | hcelsius)
    · omega
    · rcases hscale with ⟨-, hlo, hhi⟩ | hm
      · omega
      · simp [hcelsius] at hm
  · intro hthousand
    rcases hscale with ⟨-, hlo, hhi⟩ | hm
    · omega
    · exact ⟨hm, by omega⟩

end Sys2Proof.Machine

/-! The display words (`42_seven_segment_digit_encoder.md`, `43_display_register_multiplexer.md`): the table, the five layouts of
a digit word, and what can be read back from one. -/

namespace Sys2Proof.Machine

/-! The table and the sub-operations on their own -/

/-- Settles O19: the ten rows run SSE.SEG on their digit, and the table evaluates. -/
theorem segmentTableEntries : Obligations.SegmentTableEntries := by
  unfold Obligations.SegmentTableEntries
  intro s
  refine ⟨⟨?_, ?_⟩, ⟨?_, ?_⟩, ⟨?_, ?_⟩, ⟨?_, ?_⟩, ⟨?_, ?_⟩, ⟨?_, ?_⟩, ⟨?_, ?_⟩, ⟨?_, ?_⟩, ⟨?_, ?_⟩, ⟨?_, ?_⟩⟩ <;> rfl

/-- Settles O22: the three branches of DRM.MINUS. -/
theorem minusGlyphSlot : Obligations.MinusGlyphSlot := by
  unfold Obligations.MinusGlyphSlot
  intro negative d2 d3 s
  rw [exec_drmMinus, drmMinus]
  split
  · rfl
  · split <;> rfl

/-- Settles O24: the second bit is the negation of the first in every mode. -/
theorem modeBitsAreMutuallyExclusive : Obligations.ModeBitsAreMutuallyExclusive := by
  unfold Obligations.ModeBitsAreMutuallyExclusive
  intro m s
  refine ⟨(drmModebits m).1, ?_⟩
  rw [exec_drmModebits, drmModebits_snd]
  rfl

/-- Settles O26: the word and the concatenation of its fields evaluate to one value. -/
theorem errorWordIsConstant : Obligations.ErrorWordIsConstant := by
  unfold Obligations.ErrorWordIsConstant
  intro s
  exact ⟨exec_drmErr s, by decide⟩

/-! The digit word is the layout word (R119) -/

/-- The five layouts of R119: the sign, the two upper digits and the two upper fields of a value in range. -/
theorem layout_cases {t : Int} (h : -490 ≤ t ∧ t ≤ 1130) {d2 d3 : Digit} (h2 : d2 = digitOfNat (t.natAbs / 100))
    (h3 : d3 = digitOfNat (t.natAbs / 1000)) :
    (¬t < 0 ∧ d2 = 0 ∧ d3 = 0 ∧ layoutTens t = blankPattern ∧ layoutHundreds t = blankPattern) ∨
    (t < 0 ∧ d2 = 0 ∧ d3 = 0 ∧ layoutTens t = minusGlyph ∧ layoutHundreds t = blankPattern) ∨
    (¬t < 0 ∧ d2 ≠ 0 ∧ d3 = 0 ∧ layoutTens t = sseSeg d2 ∧ layoutHundreds t = blankPattern) ∨
    (t < 0 ∧ d2 ≠ 0 ∧ d3 = 0 ∧ layoutTens t = sseSeg d2 ∧ layoutHundreds t = minusGlyph) ∨
    (¬t < 0 ∧ d3 = 1 ∧ layoutTens t = sseSeg d2 ∧ layoutHundreds t = sseSeg 1) := by
  have hd2 : d2 = 0 ↔ t.natAbs / 100 % 10 = 0 := by rw [h2, digitOfNat_eq_zero]
  have hd3 : d3 = 0 ↔ t.natAbs / 1000 % 10 = 0 := by rw [h3, digitOfNat_eq_zero]
  have htens : ¬(0 ≤ t ∧ t ≤ 99) → ¬(-99 ≤ t ∧ t ≤ -1) → layoutTens t = sseSeg d2 := by
    intro hpos hneg
    rw [layoutTens, if_neg hpos, if_neg hneg, h2]
    rfl
  rcases (by omega : (0 ≤ t ∧ t ≤ 99) ∨ (-99 ≤ t ∧ t ≤ -1) ∨ (100 ≤ t ∧ t ≤ 999) ∨ t ≤ -100 ∨ 1000 ≤ t) with
    ht | ht | ht | ht | ht
  · refine .inl ⟨by omega, hd2.2 (by omega), hd3.2 (by omega), if_pos ht, ?_⟩
    rw [layoutHundreds, if_neg (by omega), if_neg (by omega)]
  · refine .inr (.inl ⟨by omega, hd2.2 (by omega), hd3.2 (by omega), ?_, ?_⟩)
    · rw [layoutTens, if_neg (by omega), if_pos ht]
    · rw [layoutHundreds, if_neg (by omega), if_neg (by omega)]
  · refine .inr (.inr (.inl ⟨by omega, mt hd2.1 (by omega), hd3.2 (by omega), htens (by omega) (by omega), ?_⟩))
    rw [layoutHundreds, if_neg (by omega), if_neg (by omega)]
  · refine .inr (.inr (.inr (.inl ⟨by omega, mt hd2.1 (by omega), hd3.2 (by omega), htens (by omega) (by omega), ?_⟩)))
    rw [layoutHundreds, if_neg (by omega), if_pos ht]
  · refine .inr (.inr (.inr (.inr ⟨by omega, ?_, htens (by omega) (by omega), if_pos ht⟩)))
    exact h3.trans (Fin.ext (by rw [digitOfNat_val]; omega))

/-- The digit path of DE.ENCODE assembles the word of the five layouts, the mode bits aside (R119). -/
theorem digitWord_eq_layoutWord {r : Reading} (h : -490 ≤ r.tenths.toInt ∧ r.tenths.toInt ≤ 1130) :
    digitWord r = layoutWord r.tenths.toInt (drmModebits r.mode).2 (drmModebits r.mode).1 := by
  rw [digitWord_eq (sseSignmag_of_inRange h) (sseDigits_of_lt (by omega)), drmAssemble_eq_append, layoutWord]
  generalize h2 : digitOfNat (r.tenths.toInt.natAbs / 100) = d2
  generalize h3 : digitOfNat (r.tenths.toInt.natAbs / 1000) = d3
  rcases layout_cases h h2.symm h3.symm with ⟨hneg, hd2, hd3, ht, hh⟩ | ⟨hneg, hd2, hd3, ht, hh⟩ | ⟨hneg, hd2, hd3, ht, hh⟩ |
      ⟨hneg, hd2, hd3, ht, hh⟩ | ⟨hneg, hd3, ht, hh⟩ <;>
    simp [drmMinus, digitPatternAt, blankPattern, *]

/-- DE.ENCODE of a reading in range delivers its layout word (R118, R119). -/
theorem deEncode_of_inRange {r : Reading} (h : drmRange r = true) :
    deEncode r = (layoutWord r.tenths.toInt (drmModebits r.mode).2 (drmModebits r.mode).1, false) := by
  rw [← digitWord_eq_layoutWord (tenths_of_drmRange h), deEncode, h]
  rfl

theorem deEncode_celsius {t : TenthsWord} (h : -450 ≤ t.toInt ∧ t.toInt ≤ 450) :
    deEncode ⟨t, .celsius⟩ = (layoutWord t.toInt false true, false) :=
  deEncode_of_inRange ((drmRange_iff _).2 (.inl ⟨rfl, h⟩))

theorem deEncode_fahrenheit {t : TenthsWord} (h : -490 ≤ t.toInt ∧ t.toInt ≤ 1130) :
    deEncode ⟨t, .fahrenheit⟩ = (layoutWord t.toInt true false, false) :=
  deEncode_of_inRange ((drmRange_iff _).2 (.inr ⟨rfl, h⟩))

/-- Settles O29: the range check passes in both modes, and the digit word is the layout word. -/
theorem digitWordsHaveTheFiveLayouts : Obligations.DigitWordsHaveTheFiveLayouts := by
  unfold Obligations.DigitWordsHaveTheFiveLayouts
  intro t s
  constructor
  · intro hmin hmax
    rw [exec_deEncode, deEncode_celsius ⟨hmin, hmax⟩]
    rfl
  · intro hmin hmax
    rw [exec_deEncode, deEncode_fahrenheit ⟨hmin, hmax⟩]
    rfl

/-! A layout word field by field -/

theorem unusedBits_layoutWord (t : Int) (fm cm : Bool) : unusedBits (layoutWord t fm cm) = 0 := by
  apply BitVec.eq_of_getLsbD_eq
  intro i hi
  simp only [unusedBits, layoutWord, BitVec.getLsbD_extractLsb', BitVec.getLsbD_append]
  interval_cases i <;> simp

theorem celsiusBit_layoutWord (t : Int) (fm cm : Bool) : celsiusBit (layoutWord t fm cm) = cm := by
  simp only [celsiusBit, layoutWord, BitVec.getLsbD_append]
  simp

theorem fahrenheitBit_layoutWord (t : Int) (fm cm : Bool) : fahrenheitBit (layoutWord t fm cm) = fm := by
  simp only [fahrenheitBit, layoutWord, BitVec.getLsbD_append]
  simp

theorem tenthsField_layoutWord (t : Int) (fm cm : Bool) : tenthsField (layoutWord t fm cm) = digitPatternAt t.natAbs 1 :=
  BitVec.extractLsb'_append_eq_right

theorem onesField_layoutWord (t : Int) (fm cm : Bool) : onesField (layoutWord t fm cm) = digitPatternAt t.natAbs 10 :=
  (BitVec.extractLsb'_append_eq_of_le (by decide)).trans BitVec.extractLsb'_append_eq_right

theorem tensField_layoutWord (t : Int) (fm cm : Bool) : tensField (layoutWord t fm cm) = layoutTens t :=
  (BitVec.extractLsb'_append_eq_of_le (by decide)).trans <|
    (BitVec.extractLsb'_append_eq_of_le (by decide)).trans BitVec.extractLsb'_append_eq_right

theorem hundredsField_layoutWord (t : Int) (fm cm : Bool) : hundredsField (layoutWord t fm cm) = layoutHundreds t :=
  (BitVec.extractLsb'_append_eq_of_le (by decide)).trans <|
    (BitVec.extractLsb'_append_eq_of_le (by decide)).trans <|
      (BitVec.extractLsb'_append_eq_of_le (by decide)).trans BitVec.extractLsb'_append_eq_right

/-! A layout word is a digit word -/

theorem isDigitPattern_sseSeg (d : Digit) : isDigitPattern (sseSeg d) = true := by
  revert d; decide

theorem legalTens_layoutTens (t : Int) : legalTens (layoutTens t) = true := by
  unfold layoutTens
  split
  · decide
  · split
    · decide
    · simp [legalTens, digitPatternAt, isDigitPattern_sseSeg]

theorem legalHundreds_layoutHundreds (t : Int) : legalHundreds (layoutHundreds t) = true := by
  unfold layoutHundreds
  split
  · decide
  · split <;> decide

/-- With exactly one mode bit, every layout word is a legal digit word (R119). -/
theorem legalDigitWord_layoutWord (t : Int) {fm cm : Bool} (hmode : fm = !cm) : legalDigitWord (layoutWord t fm cm) = true := by
  simp [legalDigitWord, unusedBits_layoutWord, celsiusBit_layoutWord, fahrenheitBit_layoutWord, tenthsField_layoutWord,
    onesField_layoutWord, tensField_layoutWord, hundredsField_layoutWord, digitPatternAt, isDigitPattern_sseSeg,
    legalTens_layoutTens, legalHundreds_layoutHundreds, hmode]

/-- The words of readings in range are legal digit words (R119). -/
theorem legalDigitWord_digitWord {r : Reading} (h : drmRange r = true) : legalDigitWord (digitWord r) = true := by
  rw [digitWord_eq_layoutWord (tenths_of_drmRange h)]
  exact legalDigitWord_layoutWord _ (drmModebits_snd r.mode)

/-! The variants of DE.ENCODE -/

theorem exec_encC (t : TenthsWord) (s : State) : exec (.encC t) s = exec (.deEncode t .celsius) s := rfl

theorem exec_encF (t : TenthsWord) (s : State) : exec (.encF t) s = exec (.deEncode t .fahrenheit) s := rfl

theorem exec_encErr (t : TenthsWord) (s : State) : exec (.encErr t) s = exec (.deEncode t .error) s := rfl

theorem exec_encRsvd (t : TenthsWord) (s : State) : exec (.encRsvd t) s = exec (.deEncode t .rsvd) s := rfl

/-- A TREC line decodes by its mode code, the two low bytes being the value (R48, R61). -/
theorem decode_trec_bytes (b0 b1 : Byte) (m : Mode) :
    decode ⟨.trec, [b0, b1, byteOf (modeCode m)]⟩ = .ok (decodeTrec (b1 ++ b0) m) := by
  rw [← trecLine_word16, decode_trec]
  rfl

/-- A reading that fails the range check gives the ERR word (R118). -/
theorem exec_deEncode_of_outOfRange {t : TenthsWord} {m : Mode} (h : drmRange ⟨t, m⟩ = false) (s : State) :
    exec (.deEncode t m) s = .next { s with delivered := .encoded 0x06F7EF80 true } := by
  rw [exec_deEncode, deEncode, h]
  rfl

theorem drmRange_celsius_of_outside {t : TenthsWord} (h : t.toInt < -450 ∨ 450 < t.toInt) :
    drmRange ⟨t, .celsius⟩ = false := by
  have houtside : ¬(-450 ≤ t.toInt ∧ t.toInt ≤ 450) := by omega
  exact decide_eq_false houtside

theorem drmRange_fahrenheit_of_outside {t : TenthsWord} (h : t.toInt < -490 ∨ 1130 < t.toInt) :
    drmRange ⟨t, .fahrenheit⟩ = false := by
  have houtside : ¬(-490 ≤ t.toInt ∧ t.toInt ≤ 1130) := by omega
  exact decide_eq_false houtside

/-- Settles O28: the line by its mode code, each variant as DE.ENCODE in its mode, and the word by the range check. -/
theorem modeCodeSelectsEncodeVariant : Obligations.ModeCodeSelectsEncodeVariant := by
  unfold Obligations.ModeCodeSelectsEncodeVariant
  intro b0 b1 s
  refine ⟨⟨decode_trec_bytes b0 b1 .celsius, decode_trec_bytes b0 b1 .fahrenheit, decode_trec_bytes b0 b1 .error,
    decode_trec_bytes b0 b1 .rsvd⟩, ?_⟩
  intro t
  refine ⟨exec_encC t s, exec_encF t s, exec_encErr t s, exec_encRsvd t s, ?_, ?_, ?_, ?_, ?_, ?_⟩
  · rintro ⟨hmin, hmax⟩
    exact ⟨_, rfl, (digitWordsHaveTheFiveLayouts t s).1 hmin hmax, celsiusBit_layoutWord .., fahrenheitBit_layoutWord ..,
      legalDigitWord_layoutWord _ rfl⟩
  · intro hrange
    exact exec_deEncode_of_outOfRange (drmRange_celsius_of_outside hrange) s
  · rintro ⟨hmin, hmax⟩
    exact ⟨_, rfl, (digitWordsHaveTheFiveLayouts t s).2 hmin hmax, fahrenheitBit_layoutWord .., celsiusBit_layoutWord ..,
      legalDigitWord_layoutWord _ rfl⟩
  · intro hrange
    exact exec_deEncode_of_outOfRange (drmRange_fahrenheit_of_outside hrange) s
  · exact exec_deEncode_of_outOfRange rfl s
  · exact exec_deEncode_of_outOfRange rfl s

/-! What can be read back from a word -/

/-- The mode bits of a word as one field. -/
theorem extractLsb'_modeBits (w : DisplayWord) :
    w.extractLsb' 28 2 = BitVec.ofBool (fahrenheitBit w) ++ BitVec.ofBool (celsiusBit w) := by
  apply BitVec.eq_of_getLsbD_eq
  intro i hi
  rw [BitVec.getLsbD_extractLsb', BitVec.getLsbD_append]
  interval_cases i <;> simp [fahrenheitBit, celsiusBit]

/-- Every digit word has a mode bit set. -/
theorem digitWord_modeBits_ne_zero (r : Reading) : (digitWord r).extractLsb' 28 2 ≠ 0 := by
  rw [extractLsb'_modeBits, celsiusBit_digitWord, fahrenheitBit_digitWord, drmModebits_snd]
  cases (drmModebits r.mode).1 <;> decide

theorem digitWord_ne_errWord (r : Reading) : digitWord r ≠ errWord := by
  intro h
  exact digitWord_modeBits_ne_zero r (by rw [h]; decide)

theorem digitWord_ne_displayReset (r : Reading) : digitWord r ≠ displayReset := by
  intro h
  exact digitWord_modeBits_ne_zero r (by rw [h]; decide)

/-- No digit pattern is empty or the minus glyph. -/
theorem sseSeg_ne (d : Digit) : sseSeg d ≠ blankPattern ∧ sseSeg d ≠ minusGlyph := by
  revert d; decide

theorem digitPatternAt_inj {n n' power : Nat} (h : digitPatternAt n power = digitPatternAt n' power) :
    n / power % 10 = n' / power % 10 :=
  congrArg Fin.val (sseSeg_injective h)

theorem layoutTens_eq_blankPattern_iff (t : Int) : layoutTens t = blankPattern ↔ 0 ≤ t ∧ t ≤ 99 := by
  unfold layoutTens
  split
  · exact iff_of_true rfl ‹_›
  · split
    · exact iff_of_false (by decide) ‹_›
    · exact iff_of_false (sseSeg_ne _).1 ‹_›

theorem layoutTens_eq_minusGlyph_iff (t : Int) : layoutTens t = minusGlyph ↔ -99 ≤ t ∧ t ≤ -1 := by
  unfold layoutTens
  split
  · exact iff_of_false (by decide) (by omega)
  · split
    · exact iff_of_true rfl ‹_›
    · exact iff_of_false (sseSeg_ne _).2 ‹_›

theorem layoutHundreds_eq_one_iff (t : Int) : layoutHundreds t = sseSeg 1 ↔ 1000 ≤ t := by
  unfold layoutHundreds
  split
  · exact iff_of_true rfl ‹_›
  · split
    · exact iff_of_false (by decide) ‹_›
    · exact iff_of_false (by decide) ‹_›

theorem layoutHundreds_eq_minusGlyph_iff (t : Int) : layoutHundreds t = minusGlyph ↔ t ≤ -100 := by
  unfold layoutHundreds
  split
  · exact iff_of_false (by decide) (by omega)
  · split
    · exact iff_of_true rfl ‹_›
    · exact iff_of_false (by decide) ‹_›

/-- Two values with the same TENS field agree in the digit it stands for: 0 where it is empty or the minus glyph. -/
theorem tensDigit_eq_of_layoutTens_eq {t t' : Int} (h : layoutTens t = layoutTens t') :
    t.natAbs / 100 % 10 = t'.natAbs / 100 % 10 := by
  have hblank : (0 ≤ t ∧ t ≤ 99) ↔ (0 ≤ t' ∧ t' ≤ 99) := by
    rw [← layoutTens_eq_blankPattern_iff, ← layoutTens_eq_blankPattern_iff, h]
  have hminus : (-99 ≤ t ∧ t ≤ -1) ↔ (-99 ≤ t' ∧ t' ≤ -1) := by
    rw [← layoutTens_eq_minusGlyph_iff, ← layoutTens_eq_minusGlyph_iff, h]
  by_cases hdigit : -99 ≤ t ∧ t ≤ 99
  · omega
  · rw [layoutTens, layoutTens, if_neg (by omega), if_neg (by omega), if_neg (by omega), if_neg (by omega)] at h
    exact digitPatternAt_inj h

/-- In the displayed range the four fields of a layout word determine the value. -/
theorem eq_of_layoutWord_eq {t t' : Int} {fm cm fm' cm' : Bool} (ht : -490 ≤ t ∧ t ≤ 1130) (ht' : -490 ≤ t' ∧ t' ≤ 1130)
    (h : layoutWord t fm cm = layoutWord t' fm' cm') : t = t' := by
  have htenths : t.natAbs / 1 % 10 = t'.natAbs / 1 % 10 :=
    digitPatternAt_inj (by rw [← tenthsField_layoutWord t fm cm, h, tenthsField_layoutWord])
  have hones : t.natAbs / 10 % 10 = t'.natAbs / 10 % 10 :=
    digitPatternAt_inj (by rw [← onesField_layoutWord t fm cm, h, onesField_layoutWord])
  have htens : layoutTens t = layoutTens t' := by
    rw [← tensField_layoutWord t fm cm, h, tensField_layoutWord]
  have hhundreds : layoutHundreds t = layoutHundreds t' := by
    rw [← hundredsField_layoutWord t fm cm, h, hundredsField_layoutWord]
  have hdigit := tensDigit_eq_of_layoutTens_eq htens
  have hsmall : (-99 ≤ t ∧ t ≤ -1) ↔ (-99 ≤ t' ∧ t' ≤ -1) := by
    rw [← layoutTens_eq_minusGlyph_iff, ← layoutTens_eq_minusGlyph_iff, htens]
  have hlarge : t ≤ -100 ↔ t' ≤ -100 := by
    rw [← layoutHundreds_eq_minusGlyph_iff, ← layoutHundreds_eq_minusGlyph_iff, hhundreds]
  have hthousand : 1000 ≤ t ↔ 1000 ≤ t' := by
    rw [← layoutHundreds_eq_one_iff, ← layoutHundreds_eq_one_iff, hhundreds]
  omega

/-- The mode bits of a reading in range determine its mode. -/
theorem mode_eq_of_modeBits_eq {r r' : Reading} (h : drmRange r = true) (h' : drmRange r' = true)
    (hbits : drmModebits r.mode = drmModebits r'.mode) : r.mode = r'.mode := by
  rcases (drmRange_iff r).1 h with ⟨hm, -⟩ | ⟨hm, -⟩ <;> rcases (drmRange_iff r').1 h' with ⟨hm', -⟩ | ⟨hm', -⟩ <;>
    rw [hm, hm'] at hbits ⊢ <;> simp [drmModebits] at hbits

/-- The readings in range have distinct digit words (R120). -/
theorem digitWord_injective {r r' : Reading} (h : drmRange r = true) (h' : drmRange r' = true)
    (hword : digitWord r = digitWord r') : r = r' := by
  have hrange := tenths_of_drmRange h
  have hrange' := tenths_of_drmRange h'
  have hmode : r.mode = r'.mode := by
    apply mode_eq_of_modeBits_eq h h'
    apply Prod.ext
    · rw [← celsiusBit_digitWord, hword, celsiusBit_digitWord]
    · rw [← fahrenheitBit_digitWord, hword, fahrenheitBit_digitWord]
  have htenths : r.tenths = r'.tenths := by
    rw [digitWord_eq_layoutWord hrange, digitWord_eq_layoutWord hrange'] at hword
    exact BitVec.eq_of_toInt_eq (eq_of_layoutWord_eq hrange hrange' hword)
  cases r
  cases r'
  exact congrArg₂ Reading.mk htenths hmode

/-- A word encoded with `Ok` is the digit word of a reading in range (R118). -/
theorem digitWord_of_exec_ok {t : TenthsWord} {m : Mode} {s : State} {w : DisplayWord}
    (h : exec (.deEncode t m) s = .next { s with delivered := .encoded w false }) :
    drmRange ⟨t, m⟩ = true ∧ digitWord ⟨t, m⟩ = w := by
  have hencode := deEncode_of_exec h
  rcases deEncode_cases ⟨t, m⟩ with ⟨-, herr⟩ | ⟨hrange, hdigits⟩
  · simp [herr] at hencode
  · rw [hdigits] at hencode
    exact ⟨hrange, congrArg Prod.fst hencode⟩

/-- Settles O30: the digit word determines its reading, and its mode bits are not both clear as in the two other words. -/
theorem encodingIsInjectiveInRange : Obligations.EncodingIsInjectiveInRange := by
  unfold Obligations.EncodingIsInjectiveInRange
  intro t t' m m' w s hexec hexec'
  obtain ⟨hrange, rfl⟩ := digitWord_of_exec_ok hexec
  obtain ⟨hrange', hword⟩ := digitWord_of_exec_ok hexec'
  have hreading : (⟨t, m⟩ : Reading) = ⟨t', m'⟩ := digitWord_injective hrange hrange' hword.symm
  exact ⟨congrArg Reading.tenths hreading, congrArg Reading.mode hreading, digitWord_ne_errWord _,
    digitWord_ne_displayReset _⟩

end Sys2Proof.Machine

/-! The update cycle (`44_update_cycle.md`): its result as a table of its snapshot, and what its word and statuses say of each other. -/

namespace Sys2Proof.Machine

/-! The three outcomes of a cycle, written out (R139) -/

theorem cycleResult_of_fault {v : SensorWord} {st : StatusWord} (h : srdValid v st = false) :
    cycleResult v st = (errWord, ⟨true, true, true⟩) := by
  simp only [cycleResult, srRead_of_fault h]
  rfl

theorem cycleResult_celsius {v : SensorWord} {st : StatusWord} (h : srdValid v st = true) (h5 : st.getLsbD 5 = false) :
    cycleResult v st = (layoutWord (srdCelsius v) false true, ⟨false, false, false⟩) := by
  have hc := srdCelsius_range ((srdValid_iff v st).1 h).1
  have hbus : (tenthsWord (srdCelsius v)).toInt = srdCelsius v := tenthsWord_toInt (by omega)
  simp only [cycleResult, srRead_celsius h h5, deEncode_celsius (hbus.symm ▸ hc), hbus]
  rfl

theorem cycleResult_fahrenheit {v : SensorWord} {st : StatusWord} (h : srdValid v st = true) (h5 : st.getLsbD 5 = true) :
    cycleResult v st = (layoutWord (cfcConvert (srdCelsius v)) true false, ⟨false, false, false⟩) := by
  have hf := cfcConvert_range (srdCelsius_range ((srdValid_iff v st).1 h).1)
  have hbus : (tenthsWord (cfcConvert (srdCelsius v))).toInt = cfcConvert (srdCelsius v) := tenthsWord_toInt hf
  simp only [cycleResult, srRead_fahrenheit h h5, deEncode_fahrenheit (hbus.symm ▸ hf), hbus]
  rfl

/-- CFC.CONVERT in its operand range, as the rule writes it (R86). -/
theorem cfcConvert_eq_tdiv {c : Int} (h : -450 ≤ c ∧ c ≤ 450) : cfcConvert c = Int.tdiv (c * 9) 5 + 320 := if_pos h

/-- Settles O32: the validity check and the Fahrenheit bit select the row, and the decode has its closed form there. -/
theorem updateCycleIsItsTable : Obligations.UpdateCycleIsItsTable := by
  unfold Obligations.UpdateCycleIsItsTable
  intro s
  refine ⟨?_, ?_, ?_⟩
  · intro hfault
    have hinvalid : srdValid s.sensor s.status = false := (srdValid_eq_false_iff _ _).2 (by tauto)
    rw [exec_ucRun, cycleResult_of_fault hinvalid]
    rfl
  · rintro ⟨hclear, hmin, hmax, hcelsius⟩
    have hvalid : srdValid s.sensor s.status = true := (srdValid_iff _ _).2 ⟨⟨hmin, hmax⟩, hclear⟩
    rw [exec_ucRun, cycleResult_celsius hvalid hcelsius, srdCelsius_of_inRange ⟨hmin, hmax⟩]
    rfl
  · rintro ⟨hclear, hmin, hmax, hfahr⟩
    have hvalid : srdValid s.sensor s.status = true := (srdValid_iff _ _).2 ⟨⟨hmin, hmax⟩, hclear⟩
    rw [exec_ucRun, cycleResult_fahrenheit hvalid hfahr, cfcConvert_eq_tdiv (srdCelsius_range ⟨hmin, hmax⟩),
      srdCelsius_of_inRange ⟨hmin, hmax⟩]
    rfl

/-! Word and statuses -/

/-- A cycle shows the ERR word with all statuses set, or the digit word of a reading in range with all clear. -/
theorem cycleResult_err_or_digits (v : SensorWord) (st : StatusWord) :
    ((cycleResult v st).1 = errWord ∧ (cycleResult v st).2 = ⟨true, true, true⟩) ∨
      ∃ r, drmRange r = true ∧ (cycleResult v st).1 = digitWord r ∧ (cycleResult v st).2 = ⟨false, false, false⟩ := by
  rcases cycleResult_cases v st with ⟨-, h⟩ | ⟨hvalid, -, h⟩ | ⟨hvalid, -, h⟩ <;> rw [h]
  · exact .inl ⟨rfl, rfl⟩
  · exact .inr ⟨_, drmRange_celsius ((srdValid_iff v st).1 hvalid).1, rfl, rfl⟩
  · exact .inr ⟨_, drmRange_fahrenheit ((srdValid_iff v st).1 hvalid).1, rfl, rfl⟩

theorem statusPorts_eq (s : State) : statusPorts s = (cycleResult s.sensor s.status).2 := rfl

/-- Settles O33: the ports are the cycle's own statuses, and these are all set or all clear. -/
theorem cycleStatusesAgree : Obligations.CycleStatusesAgree := by
  unfold Obligations.CycleStatusesAgree
  intro s
  refine ⟨s.afterCycle, exec_ucRun_eq_next_afterCycle s, s.afterCycle_delivered, ?_⟩
  rw [statusPorts_eq]
  rcases cycleResult_err_or_digits s.sensor s.status with ⟨-, hflags⟩ | ⟨r, -, -, hflags⟩ <;> rw [hflags]
  · exact .inr (by decide)
  · exact .inl (by decide)

/-- Settles O34: the ERR word has both mode bits clear, and no digit word has. -/
theorem degradedIsReadFromTheDisplay : Obligations.DegradedIsReadFromTheDisplay := by
  unfold Obligations.DegradedIsReadFromTheDisplay
  intro s t f hexec hdelivered
  rw [exec_ucRun_eq_next_afterCycle, Host.Outcome.next.injEq] at hexec
  subst hexec
  rw [State.afterCycle_delivered, Output.status.injEq] at hdelivered
  subst hdelivered
  rw [State.afterCycle_display]
  rcases cycleResult_err_or_digits s.sensor s.status with ⟨hword, hflags⟩ | ⟨r, -, hword, hflags⟩ <;> rw [hword, hflags]
  · exact ⟨iff_of_true rfl rfl, iff_of_true rfl (by decide)⟩
  · exact ⟨iff_of_false (by decide) (digitWord_ne_errWord r), iff_of_false (by decide) (digitWord_modeBits_ne_zero r)⟩

/-! The ignored STATUS bits -/

/-- A cycle depends on STATUS through the fault bit and the Fahrenheit bit alone (R58, R78). -/
theorem cycleResult_congr {v : SensorWord} {st st' : StatusWord} (h2 : st.getLsbD 2 = st'.getLsbD 2)
    (h5 : st.getLsbD 5 = st'.getLsbD 5) : cycleResult v st = cycleResult v st' := by
  have hvalid : srdValid v st = srdValid v st' := by rw [srdValid_eq_not_or, srdValid_eq_not_or, h2]
  have hfahr : fahrFlag st = fahrFlag st' := h5
  have hread : srRead v st = srRead v st' := by rw [srRead, srRead, hvalid, hfahr]
  rw [cycleResult, cycleResult, hread]

/-- Two STATUS values that agree under the mask 0x24 agree in bits 2 and 5. -/
theorem getLsbD_of_mask_eq {st st' : StatusWord} (h : st &&& 0x24 = st' &&& 0x24) :
    st.getLsbD 2 = st'.getLsbD 2 ∧ st.getLsbD 5 = st'.getLsbD 5 := by
  have h2 := congrArg (BitVec.getLsbD · 2) h
  have h5 := congrArg (BitVec.getLsbD · 5) h
  simpa using And.intro h2 h5

/-- Settles O36: two STATUS values give one result if bits 2 and 5 agree, or if both cycles are faulted. -/
theorem ignoredStatusBitsHaveNoEffect : Obligations.IgnoredStatusBitsHaveNoEffect := by
  unfold Obligations.IgnoredStatusBitsHaveNoEffect
  intro s st h
  have hresult : cycleResult s.sensor st = cycleResult s.sensor s.status := by
    rcases h with hmask | ⟨hfault, hfault'⟩ | hsensor
    · obtain ⟨h2, h5⟩ := getLsbD_of_mask_eq hmask
      exact cycleResult_congr h2 h5
    · rw [cycleResult_of_fault ((srdValid_eq_false_iff _ _).2 (.inr (.inr hfault))),
        cycleResult_of_fault ((srdValid_eq_false_iff _ _).2 (.inr (.inr hfault')))]
    · have hinvalid (x : StatusWord) : srdValid s.sensor x = false := (srdValid_eq_false_iff _ _).2 (by tauto)
      rw [cycleResult_of_fault (hinvalid st), cycleResult_of_fault (hinvalid s.status)]
  exact ⟨s.afterCycle, _, exec_ucRun_eq_next_afterCycle s, exec_ucRun_eq_next_afterCycle { s with status := st },
    congrArg Prod.fst hresult, congrArg Output.status (congrArg Prod.snd hresult)⟩

end Sys2Proof.Machine

/-! The boundary events and the machine as a whole (`20_memory.md`, `60_exceptions.md`): what each operation may read and write. -/

namespace Sys2Proof.Machine

/-! Boundary events -/

theorem exec_reset (s : State) : exec .reset s = .next (s.resetDisplay.deliver .silent) := rfl

theorem exec_envSensor (v : SensorWord) (s : State) : exec (.envSensor v) s = .next ((s.envWriteSensor v).deliver .silent) := rfl

theorem exec_envStatus (v : StatusWord) (s : State) : exec (.envStatus v) s = .next ((s.envWriteStatus v).deliver .silent) := rfl

theorem exec_hostRead (s : State) : exec .hostRead s = .next (s.deliver (.word s.display)) := rfl

/-- A cycle overwrites DISPLAY and what was delivered, so what both held before leaves no trace. -/
theorem exec_ucRun_writeDisplay_deliver (s : State) (w : DisplayWord) (o : Output) :
    exec .ucRun ((s.writeDisplay w).deliver o) = exec .ucRun s := rfl

/-- Settles O37: the two environment writes. -/
theorem environmentWritesOneInput : Obligations.EnvironmentWritesOneInput := by
  unfold Obligations.EnvironmentWritesOneInput
  intro v st s
  exact ⟨exec_envSensor v s, exec_envStatus st s⟩

/-- Settles O38: the host's read delivers the display word. -/
theorem hostReadReturnsTheDisplay : Obligations.HostReadReturnsTheDisplay := by
  unfold Obligations.HostReadReturnsTheDisplay
  exact exec_hostRead

/-- Settles O39: reset writes DISPLAY alone, and the cycle after it overwrites that. -/
theorem resetClearsTheDisplayAlone : Obligations.ResetClearsTheDisplayAlone := by
  unfold Obligations.ResetClearsTheDisplayAlone
  intro s
  exact ⟨exec_reset s, exec_ucRun_writeDisplay_deliver s displayReset .silent⟩

/-- Settles O40: DISPLAY holds the reset value, and no stimulus is pending. -/
theorem resetStateShowsNothing : Obligations.ResetStateShowsNothing := by
  unfold Obligations.ResetStateShowsNothing
  exact ⟨rfl, rfl⟩

/-- Settles O41: the later write overwrites the register that the earlier one wrote. -/
theorem onlyTheLastEnvironmentWriteIsSeen : Obligations.OnlyTheLastEnvironmentWriteIsSeen := by
  unfold Obligations.OnlyTheLastEnvironmentWriteIsSeen
  intro a b x y s t u
  constructor
  · intro h
    rw [exec_envSensor, Host.Outcome.next.injEq] at h
    rw [← h]
    rfl
  · intro h
    rw [exec_envStatus, Host.Outcome.next.injEq] at h
    rw [← h]
    rfl

/-! Every operation -/

/-- Settles O42: in each of the five cases of an operation there is a next state, with the list as it was. -/
theorem everyOperationCompletes : Obligations.EveryOperationCompletes := by
  unfold Obligations.EveryOperationCompletes
  intro i s
  rcases exec_cases i s with ⟨o, h⟩ | ⟨-, o, h⟩ | ⟨-, h⟩ | ⟨v, -, h⟩ | ⟨v, -, h⟩ <;> exact ⟨_, h, rfl⟩

/-- Settles O43: the other four cases of an operation are the excluded ones. -/
theorem pureOperationsTouchNoRegister : Obligations.PureOperationsTouchNoRegister := by
  unfold Obligations.PureOperationsTouchNoRegister
  intro i s hcycle hreset hsensor hstatus
  rcases exec_cases i s with ⟨o, h⟩ | ⟨hi, -⟩ | ⟨hi, -⟩ | ⟨v, hi, -⟩ | ⟨v, hi, -⟩
  · exact ⟨o, h⟩
  · exact absurd hi hcycle
  · exact absurd hi hreset
  · exact absurd hi (hsensor v)
  · exact absurd hi (hstatus v)

/-- Settles O44: each of the five cases of an operation writes the register it names and no other. -/
theorem registersHaveOneWriter : Obligations.RegistersHaveOneWriter := by
  unfold Obligations.RegistersHaveOneWriter
  intro i s t hexec
  rcases exec_cases i s with ⟨o, h⟩ | ⟨rfl, o, h⟩ | ⟨rfl, h⟩ | ⟨v, rfl, h⟩ | ⟨v, rfl, h⟩ <;>
    rw [hexec, Host.Outcome.next.injEq] at h <;> subst h <;> simp

/-- Settles O45: UC.RUN and RESET overwrite DISPLAY, and the meaning of every other operation but HOST.READ is a function
of its operands, SENSOR and STATUS. -/
theorem displayIsNeverReadByTheBlock : Obligations.DisplayIsNeverReadByTheBlock := by
  unfold Obligations.DisplayIsNeverReadByTheBlock
  intro i s w o hread
  cases i
  case hostRead => exact absurd rfl hread
  case ucRun | reset => exact ⟨_, _, rfl, rfl, rfl, rfl, rfl, (if_pos (by simp)).symm⟩
  all_goals exact ⟨_, _, rfl, rfl, rfl, rfl, rfl, (if_neg (by simp)).symm⟩

end Sys2Proof.Machine

/-! The step (`44_update_cycle.md` section 1, `60_exceptions.md` section 6, `70_reset_and_hazards.md`): what it runs and refuses, when
DISPLAY changes, and the invariant of legal display words (R13). -/

namespace Sys2Proof.Machine

/-! The step by the kind of its stimulus -/

theorem step_of_operation {s : State} {x : Stimulus} {rest : List Stimulus} {i : Instr} (h : s.stimuli = x :: rest)
    (hx : stimulusOperation x = .ok (some i)) : step s = exec i (s.withStimuli rest) := by
  simp only [step, h, hx]

theorem step_of_no_operation {s : State} {x : Stimulus} {rest : List Stimulus} (h : s.stimuli = x :: rest)
    (hx : stimulusOperation x = .ok none) : step s = .next (s.withStimuli rest) := by
  simp only [step, h, hx]

theorem step_of_malformed {s : State} {x : Stimulus} {rest : List Stimulus} {e : DecodeError} (h : s.stimuli = x :: rest)
    (hx : stimulusOperation x = .error e) : step s = .refused (.malformedLine e) := by
  simp only [step, h, hx]

theorem stimulusOperation_line_ok {l : Line} {i : Instr} : stimulusOperation (.line l) = .ok (some i) ↔ decode l = .ok i := by
  cases h : decode l <;> simp [stimulusOperation, h, Except.map]

theorem stimulusOperation_line_error {l : Line} {e : DecodeError} :
    stimulusOperation (.line l) = .error e ↔ decode l = .error e := by
  cases h : decode l <;> simp [stimulusOperation, h, Except.map]

/-- Settles O46: a line that decodes asks for its operation. -/
theorem stepRunsTheDecodedOperation : Obligations.StepRunsTheDecodedOperation := by
  unfold Obligations.StepRunsTheDecodedOperation
  intro s l rest i hstimuli hdecode
  exact step_of_operation hstimuli (stimulusOperation_line_ok.2 hdecode)

/-- Settles O47: the operation of an edge, for each kind. -/
theorem clockEdgeResetWinsOverTick : Obligations.ClockEdgeResetWinsOverTick := by
  unfold Obligations.ClockEdgeResetWinsOverTick
  intro s tick rest
  exact ⟨fun h => step_of_operation h rfl, fun h => step_of_operation h rfl, fun h => step_of_no_operation h rfl⟩

/-- Settles O5: the decoder refuses the index, and the step passes its reason on. -/
theorem digitIndexAboveNineIsRefused : Obligations.DigitIndexAboveNineIsRefused := by
  unfold Obligations.DigitIndexAboveNineIsRefused
  intro s key b rest hkey hmin hmax hstimuli
  exact step_of_malformed hstimuli
    (stimulusOperation_line_error.2 (decode_digit_of_error hkey (digitOf_of_index hmin hmax)))

/-- A stimulus is refused only if it is a line that does not decode. -/
theorem line_of_stimulusOperation_error {x : Stimulus} {e : DecodeError} (h : stimulusOperation x = .error e) :
    ∃ l, x = .line l ∧ decode l = .error e := by
  cases x with
  | line l => exact ⟨l, rfl, stimulusOperation_line_error.1 h⟩
  | edge rst tick => cases h

/-- Settles O48: the cases of a step; an operation always gives a next state and keeps the list. -/
theorem stepTakesOneStimulus : Obligations.StepTakesOneStimulus := by
  unfold Obligations.StepTakesOneStimulus
  intro s
  constructor
  · intro hempty
    simp only [step, hempty]
  · intro x rest hstimuli
    cases hx : stimulusOperation x with
    | error e =>
      obtain ⟨l, hline, hdecode⟩ := line_of_stimulusOperation_error hx
      exact .inr ⟨l, e, hline, hdecode, step_of_malformed hstimuli hx⟩
    | ok operation =>
      left
      cases operation with
      | none => exact ⟨_, step_of_no_operation hstimuli hx, rfl⟩
      | some i =>
        obtain ⟨t, hexec, hlist⟩ := everyOperationCompletes i (s.withStimuli rest)
        exact ⟨t, (step_of_operation hstimuli hx).trans hexec, hlist⟩

/-! What a step does to DISPLAY -/

/-- An operation keeps DISPLAY, or it is a cycle and writes its word, or it is a reset (R12, R37). -/
theorem exec_display_cases {i : Instr} {s t : State} (h : exec i s = .next t) :
    t.display = s.display ∨ (i = .ucRun ∧ t.display = (cycleResult s.sensor s.status).1) ∨
      (i = .reset ∧ t.display = displayReset) := by
  rcases exec_cases i s with ⟨o, hi⟩ | ⟨hcycle, o, hi⟩ | ⟨hreset, hi⟩ | ⟨v, -, hi⟩ | ⟨v, -, hi⟩ <;>
    rw [h, Host.Outcome.next.injEq] at hi <;> subst hi
  · exact .inl rfl
  · exact .inr (.inl ⟨hcycle, rfl⟩)
  · exact .inr (.inr ⟨hreset, rfl⟩)
  · exact .inl rfl
  · exact .inl rfl

/-- A step keeps DISPLAY, or its stimulus asks for a cycle and the cycle's word is written, or it asks for a reset. -/
theorem step_display_cases {s t : State} (h : step s = .next t) :
    t.display = s.display ∨ ∃ x rest, s.stimuli = x :: rest ∧
      ((stimulusOperation x = .ok (some .ucRun) ∧ t.display = (cycleResult s.sensor s.status).1) ∨
       (stimulusOperation x = .ok (some .reset) ∧ t.display = displayReset)) := by
  rcases step_cases s with ⟨-, hstep⟩ | ⟨x, rest, hstimuli, ⟨e, -, hstep⟩ | ⟨-, hstep⟩ | ⟨i, hx, hstep⟩⟩ <;> rw [h] at hstep
  · cases hstep
    exact .inl rfl
  · cases hstep
  · cases hstep
    exact .inl rfl
  · rcases exec_display_cases hstep.symm with hkeep | ⟨rfl, hword⟩ | ⟨rfl, hword⟩
    · exact .inl hkeep
    · exact .inr ⟨x, rest, hstimuli, .inl ⟨hx, hword⟩⟩
    · exact .inr ⟨x, rest, hstimuli, .inr ⟨hx, hword⟩⟩

/-- The stimuli that ask for a cycle: the tick's one line, and an edge with `tick` alone. -/
theorem eq_tick_of_ucRun {x : Stimulus} (h : stimulusOperation x = .ok (some .ucRun)) :
    x = .line ⟨.tick, []⟩ ∨ x = .edge false true := by
  match x with
  | .line l => exact .inl (congrArg Stimulus.line (eq_encode_of_decode (stimulusOperation_line_ok.1 h)))
  | .edge false true => exact .inr rfl
  | .edge true _ => cases h
  | .edge false false => cases h

/-- The stimuli that ask for a reset: its one line, and every edge with `rst`. -/
theorem eq_reset_of_reset {x : Stimulus} (h : stimulusOperation x = .ok (some .reset)) :
    x = .line ⟨.reset, []⟩ ∨ ∃ tick, x = .edge true tick := by
  match x with
  | .line l => exact .inl (congrArg Stimulus.line (eq_encode_of_decode (stimulusOperation_line_ok.1 h)))
  | .edge true tick => exact .inr ⟨tick, rfl⟩
  | .edge false true => cases h
  | .edge false false => cases h

/-- Settles O49: only a cycle or a reset changes DISPLAY, and a line that asks for one is its encoding. -/
theorem displayChangesOnlyOnTickOrReset : Obligations.DisplayChangesOnlyOnTickOrReset := by
  unfold Obligations.DisplayChangesOnlyOnTickOrReset
  intro s t hstep hchange
  rcases step_display_cases hstep with hkeep | ⟨x, rest, hstimuli, ⟨hx, -⟩ | ⟨hx, -⟩⟩
  · exact absurd hkeep hchange
  · rcases eq_tick_of_ucRun hx with hline | hedge
    · exact ⟨x, rest, hstimuli, .inl hline⟩
    · exact ⟨x, rest, hstimuli, .inr (.inr (.inl hedge))⟩
  · rcases eq_reset_of_reset hx with hline | hedge
    · exact ⟨x, rest, hstimuli, .inr (.inl hline)⟩
    · exact ⟨x, rest, hstimuli, .inr (.inr (.inr hedge))⟩

/-! The invariant of legal display words (R13) -/

/-- Whatever the snapshot, a cycle's word is the ERR word or a digit word. -/
theorem legalCycleWord_cycleResult (v : SensorWord) (st : StatusWord) : legalCycleWord (cycleResult v st).1 = true := by
  rcases cycleResult_err_or_digits v st with ⟨hword, -⟩ | ⟨r, hrange, hword, -⟩ <;> rw [hword]
  · rfl
  · simp [legalCycleWord, legalDigitWord_digitWord hrange]

theorem cycleResult_ne_displayReset (v : SensorWord) (st : StatusWord) : (cycleResult v st).1 ≠ displayReset := by
  rcases cycleResult_err_or_digits v st with ⟨hword, -⟩ | ⟨r, -, hword, -⟩ <;> rw [hword]
  · decide
  · exact digitWord_ne_displayReset r

theorem legalDisplay_of_legalCycleWord {w : DisplayWord} (h : legalCycleWord w = true) : legalDisplay w = true := by
  simp [legalDisplay, h]

/-- Bits 31:30 of a legal display word are zero (R50). -/
theorem unusedBits_of_legalDisplay {w : DisplayWord} (h : legalDisplay w = true) : unusedBits w = 0 := by
  simp only [legalDisplay, legalCycleWord, Bool.or_eq_true, beq_iff_eq] at h
  rcases h with rfl | rfl | hdigits
  · rfl
  · rfl
  · simp only [legalDigitWord, Bool.and_eq_true, beq_iff_eq] at hdigits
    obtain ⟨⟨⟨⟨⟨hunused, -⟩, -⟩, -⟩, -⟩, -⟩ := hdigits
    exact hunused

/-- Settles O51: the reset value is one of the legal words. -/
theorem resetStateIsLegal : Obligations.ResetStateIsLegal := by
  unfold Obligations.ResetStateIsLegal
  exact rfl

/-- A step writes DISPLAY with legal words only. -/
theorem step_preserves_inv {s t : State} (hinv : Inv s) (h : step s = .next t) : Inv t := by
  unfold Inv at hinv ⊢
  rcases step_display_cases h with hkeep | ⟨x, rest, -, ⟨-, hword⟩ | ⟨-, hword⟩⟩
  · rwa [hkeep]
  · rw [hword]
    exact legalDisplay_of_legalCycleWord (legalCycleWord_cycleResult ..)
  · rw [hword]
    rfl

/-- Settles O50: the three kinds of legal word are kept or written anew, and each has its unused bits clear. -/
theorem stepKeepsTheDisplayLegal : Obligations.StepKeepsTheDisplayLegal := by
  unfold Obligations.StepKeepsTheDisplayLegal
  intro s t hinv hstep
  have hinv' : Inv t := step_preserves_inv hinv hstep
  exact ⟨hinv', unusedBits_of_legalDisplay hinv'⟩

/-- Settles O52: a cycle and a reset each write a legal word over whatever DISPLAY held. -/
theorem oneCycleMakesTheDisplayLegal : Obligations.OneCycleMakesTheDisplayLegal := by
  unfold Obligations.OneCycleMakesTheDisplayLegal
  intro s
  constructor
  · exact ⟨s.afterCycle, exec_ucRun_eq_next_afterCycle s, legalCycleWord_cycleResult s.sensor s.status,
      cycleResult_ne_displayReset s.sensor s.status⟩
  · exact ⟨_, exec_reset s, rfl⟩

end Sys2Proof.Machine
